-- ==== Sys2Proof/Word.lean ====
section
/-! DEFINITION. The words of the node: bytes, 16-bit fields, node numbers, speed steps and presets. -/

namespace Sys2Proof

/-- A byte of the lift bus, the service line, the plan image or the configuration memory. -/
abbrev Byte := BitVec 8

/-- A 16-bit field: height, lift, load, fingerprint, demand word (11_formats.md, R184). -/
abbrev Word := BitVec 16

/-- A node number, 0 to 63 (00_scope.md, "Node number"). -/
abbrev NodeNum := Fin 64

/-- A speed step, 1 to 8 (R119), held as the step less one: step k is `k - 1`. -/
abbrev Step := Fin 8

/-- A preset, 0 to 4; 0 is free running with no target (R79). -/
abbrev Preset := Fin 5

end Sys2Proof
end

