-- ==== Sys2Proof/Syntax.lean ====
section
/-! DEFINITION. The names the manual uses (phases, causes, frames) and the commands of the block:
one constructor of `Instr` for every row of spec/opcode_table.json. -/

namespace Sys2Proof

/-- The ten phases of R61, in the order of their codes (11_formats.md). -/
inductive Phase where
  | unplanned | starting | idle | approach | contact | lift | hold | lower | retract | halted
  deriving DecidableEq, Repr

/-- The lock monitor's sync state (R128). -/
inductive SyncState where
  | acquire | track | lock
  deriving DecidableEq, Repr

/-- The sixteen causes of R138, in the order of their codes 1 to 16. -/
inductive Cause where
  | estop | overload | loadLost | loadSilent | differential | peerSilent | stall | drift
  | encoderFault | driveFault | travelLimit | nutEngaged | mediumFault | contactTimeout
  | duplicateNode | noReference
  deriving DecidableEq, Repr

/-- Direction of a session or of a press (R79, R56). -/
inductive Direction where
  | up | down
  deriving DecidableEq, Repr

/-- A session token: originator and sequence (R79). -/
structure Token where
  originator : NodeNum
  sequence : Byte
  deriving DecidableEq, Repr

/-- The body of a REPORT (11_formats.md; R116). The halt flag is set exactly when `halt` holds a
cause (R185), and `token` is absent for 0xFF, 0xFF (R184). -/
structure ReportBody where
  phase : Phase
  sync : SyncState
  step : Step
  halt : Option Cause
  token : Option Token
  lift : Word
  height : Word
  load : Word
  fingerprint : Word
  refValid : Bool
  clamped : Bool
  epochKnown : Bool
  deriving DecidableEq, Repr

/-- The body of a MOTION: a START or KEEP of one direction with sequence and preset, or an END with
the token that it ends (R86). -/
inductive Motion where
  | start (dir : Direction) (seq : Byte) (preset : Preset)
  | keep (dir : Direction) (seq : Byte) (preset : Preset)
  | finish (token : Token)
  deriving DecidableEq, Repr

/-- The body of a HALT: cause, originator lift, peer involved or absent (R148). -/
structure HaltBody where
  cause : Cause
  lift : Word
  peer : Option NodeNum
  deriving DecidableEq, Repr

/-- The body of a frame by its kind (R2). -/
inductive Body where
  | report (r : ReportBody)
  | motion (m : Motion)
  | halt (h : HaltBody)
  | clear
  deriving DecidableEq, Repr

/-- A frame of the lift bus by its fields; the sync byte and the CRC are the LAU's (R2, R8). -/
structure Frame where
  sender : NodeNum
  epochByte : Byte
  body : Body
  deriving DecidableEq, Repr

/-- A byte as the receiver hears it: `none` is a malformed byte, whose stop bit was low (R1). -/
abbrev BusByte := Option Byte

/-- The four lines that the Trip Monitor's switch checks read (R55). -/
inductive SafetyLine where
  | estop | limitUp | limitDown | nut
  deriving DecidableEq, Repr

/-- The two drive status lines (R53). -/
inductive DriveLine where
  | ready | fault
  deriving DecidableEq, Repr

/-- The levels of the thirteen filtered lines in the order of the status block (R54, 0x506):
ESTOP open, LIMIT_UP made, LIMIT_DOWN made, NUT made, DRIVE_READY high, DRIVE_FAULT asserted, then
the pendant lines pressed and the preset lines active. -/
structure LineLevels where
  estop : Bool
  limitUp : Bool
  limitDown : Bool
  nut : Bool
  driveReady : Bool
  driveFault : Bool
  up : Bool
  down : Bool
  stop : Bool
  resetReq : Bool
  preset0 : Bool
  preset1 : Bool
  preset2 : Bool
  deriving DecidableEq, Repr

/-- The commands: one constructor for each row of spec/opcode_table.json, in the table's order. -/
inductive Instr where
  /-- RESET: the reset pin, or power-on. -/
  | reset
  /-- IDLE_EVENT: two idle slots end a run; `rest` is what the framer heard of it since the last
  command that touched the run. -/
  | idleEvent (rest : List BusByte)
  /-- LINE_BECOMES_BUSY: a start bit from another node. -/
  | lineBecomesBusy
  /-- DEFERRAL_RUNS_OUT. -/
  | deferralRunsOut
  /-- COLLISION: the byte at `offset` of the frame on the line reads back as `readBack`. -/
  | collision (offset : Nat) (readBack : BusByte)
  /-- TRANSMISSION_COMPLETE: the idle event after the node's own frame read back unchanged. -/
  | transmissionComplete
  /-- REPORT: a good REPORT from another node ends on the line. -/
  | report (sender : NodeNum) (epochByte : Byte) (body : ReportBody)
  /-- START_UP from another node. -/
  | startUp (sender : NodeNum) (epochByte : Byte) (seq : Byte) (preset : Preset)
  /-- START_DOWN from another node. -/
  | startDown (sender : NodeNum) (epochByte : Byte) (seq : Byte) (preset : Preset)
  /-- KEEP_UP from another node. -/
  | keepUp (sender : NodeNum) (epochByte : Byte) (seq : Byte) (preset : Preset)
  /-- KEEP_DOWN from another node. -/
  | keepDown (sender : NodeNum) (epochByte : Byte) (seq : Byte) (preset : Preset)
  /-- END from another node, with the token that it ends. -/
  | endSession (sender : NodeNum) (epochByte : Byte) (token : Token)
  /-- HALT from another node. -/
  | halt (sender : NodeNum) (epochByte : Byte) (body : HaltBody)
  /-- CLEAR from another node; its epoch byte is the new epoch. -/
  | clear (sender : NodeNum) (epochByte : Byte)
  /-- CONTROL_PERIOD_EXPIRY. -/
  | controlPeriodExpiry
  /-- POSITION_READ_COMPLETE: the sampled acknowledge bit, position word, parity bit and final sample,
  each as the level on POS_DAT. -/
  | positionReadComplete (acknowledge : Bool) (position : Word) (parity : Bool) (final : Bool)
  /-- LOAD_SAMPLE: a burst of `edges` clock edges closes; `load` is its 16 bits when there are 16. -/
  | loadSample (edges : Nat) (load : Word)
  /-- LOAD_SILENCE_EXPIRY. -/
  | loadSilenceExpiry
  /-- DEMAND_TRANSFER_COMPLETE. -/
  | demandTransferComplete
  /-- INPUTS_SETTLED: every filtered line has settled; the levels are those it settled at. -/
  | inputsSettled (levels : LineLevels)
  /-- SWITCH_CHANGE: a filtered change of one of the four safety lines to `level`. -/
  | switchChange (line : SafetyLine) (level : Bool)
  /-- DRIVE_STATUS_CHANGE: a filtered change of DRIVE_READY or DRIVE_FAULT to `level`. -/
  | driveStatusChange (line : DriveLine) (level : Bool)
  /-- HELD_DIRECTION_CHANGE: the filtered levels of UP and DOWN after the change, and those of the
  selector lines PRESET2, PRESET1, PRESET0 at that moment. -/
  | heldDirectionChange (up down : Bool) (selector : BitVec 3)
  /-- STOP_PRESS: a filtered change of STOP; to pressed it is the press, to released it re-arms it. -/
  | stopPress (pressed : Bool)
  /-- RESET_REQ_CHANGE: a filtered change of RESET_REQ. -/
  | resetReqChange (pressed : Bool)
  /-- RESET_REQUEST_HOLD_EXPIRY. -/
  | resetRequestHoldExpiry
  /-- CONTACT_TIMEOUT. -/
  | contactTimeout
  /-- LOAD_COMPLETE: the bytes read from the configuration memory. -/
  | loadComplete (bytes : List Byte)
  /-- LOAD_NO_MEMORY. -/
  | loadNoMemory
  /-- STORE_COMPLETE: the bytes read back at the verify, or `none` when the memory did not
  acknowledge. -/
  | storeComplete (readBack : Option (List Byte))
  /-- STORE_REPLY_SENT. -/
  | storeReplySent
  /-- PEEK. -/
  | peek (address : Word)
  /-- POKE. -/
  | poke (address : Word) (data : Byte)
  /-- PEEK_ON. -/
  | peekOn
  /-- POKE_ON. -/
  | pokeOn (data : Byte)
  /-- SUMMARY. -/
  | summary
  /-- ADOPT. -/
  | adopt
  /-- STORE. -/
  | store
  /-- RESTART. -/
  | restart
  /-- UNKNOWN_COMMAND_CODE: the code received. -/
  | unknownCommandCode (code : Byte)
  /-- FRAMING_ERROR. -/
  | framingError
  /-- BREAK: `sent` is how many bytes of the reply have gone out at the end of the byte in progress. -/
  | lineBreak (sent : Nat)
  /-- BREAK_ECHO. -/
  | breakEcho
  /-- SERVICE_BYTE_RECEIVED. -/
  | serviceByteReceived (byte : Byte)
  deriving DecidableEq, Repr

end Sys2Proof
end

