-- ==== Sys2Proof/Machine/State.lean ====
section
/-! DEFINITION. The state of the node as plain data, block by block (00_scope.md, "Block overview"), the
reset state, and the reasons a step can stop. -/

namespace Sys2Proof.Machine

open Sys2Proof

/-- The block raises no fault: every failure the spec names is an effect on State (R138). -/
inductive Fault where
  deriving DecidableEq, Repr

/-- Why a command would have no meaning. -/
inductive Refusal where
  /-- A command whose arm is not modelled, by its mnemonic. Raised by no arm: every row has its meaning.
  Safe: it stops. -/
  | notModelled (mnemonic : String)
  deriving DecidableEq, Repr

/-- The plan image as (offset, byte) pairs in canonical form: offsets strictly rising and below 256, and
no pair whose byte is what an unlisted offset reads, 0x00 (R159). -/
abbrev Memory := List Host.Cell

/-! ### Line Access Unit -/

/-- A frame in a lane or in the transmitter, with its attempt count (R8, R15). -/
structure Queued where
  frame : Frame
  attempts : Nat
  deriving DecidableEq, Repr

/-- A running deferral: the slots counted, and the deferral computed for the head frame (R12, R13). -/
structure Deferral where
  slots : Nat
  needed : Nat
  deriving DecidableEq, Repr

/-- The Line Access Unit (R19). -/
structure LineAccess where
  synced : Bool
  lineBusy : Bool
  run : List BusByte
  last : NodeNum
  urgent : List Queued
  normal : List Queued
  transmitter : Option Queued
  deferral : Option Deferral
  deriving DecidableEq, Repr

/-! ### Peer Table -/

/-- The state of a peer entry (R22). -/
inductive EntryState where
  | unlisted | stranger | expected | live | silent | mismatched | self
  deriving DecidableEq, Repr

/-- The reported fields of an entry (R21): the REPORT's body, with the epoch by its EPOCH_KNOWN flag. -/
structure Reported where
  phase : Phase
  sync : SyncState
  step : Step
  halt : Option Cause
  token : Option Token
  lift : Word
  height : Word
  load : Word
  epoch : Option Byte
  fingerprint : Word
  refValid : Bool
  clamped : Bool
  deriving DecidableEq, Repr

/-- One entry of the Peer Table (R21). -/
structure PeerEntry where
  state : EntryState
  report : Option Reported
  silence : Nat
  stale : Bool
  fresh : Bool
  deriving DecidableEq, Repr

/-- The Peer Table: 64 entries and the period list (R21, R31). -/
structure PeerTable where
  entries : Vector PeerEntry 64
  periodList : List NodeNum
  deriving DecidableEq, Repr

/-! ### Column Interface -/

/-- The position read (R42): a read in flight when the node enters UNPLANNED completes without being
handed on. -/
inductive PositionRead where
  | idle | inFlight | inFlightNotHanded
  deriving DecidableEq, Repr

/-- The filtered level of each line, absent until the line has settled (R54). -/
structure FilteredLevels where
  estop : Option Bool
  limitUp : Option Bool
  limitDown : Option Bool
  nut : Option Bool
  driveReady : Option Bool
  driveFault : Option Bool
  up : Option Bool
  down : Option Bool
  stop : Option Bool
  resetReq : Option Bool
  preset0 : Option Bool
  preset1 : Option Bool
  preset2 : Option Bool
  deriving DecidableEq, Repr

/-- A demand word as it goes out on DRV_DAT (R51): the demand in 16 bits, and the parity bit that follows
them. -/
structure DemandWord where
  value : Word
  parity : Bool
  deriving DecidableEq, Repr

/-- The Column Interface (R59). Times are in microseconds to the expiry. `lastWord` is the value of the demand
word last sent, as the status block shows it (R51). -/
structure ColumnInterface where
  read : PositionRead
  height : Option Word
  invalidRun : Nat
  load : Option Word
  contactRun : Nat
  unloadRun : Nat
  lossRun : Nat
  overloadRun : Nat
  startSamples : Nat
  contactHeight : Option Word
  loadTimer : Option Nat
  loadSilent : Bool
  transfer : Option DemandWord
  nextWord : Option DemandWord
  lastWord : Word
  driveEnable : Bool
  brakeRelease : Bool
  driveNotReady : Bool
  levels : FilteredLevels
  inputsSettled : Bool
  held : Option Direction
  holdTimer : Option Nat
  deriving DecidableEq, Repr

/-! ### Phase Controller -/

/-- The last stop cause (R74). -/
inductive StopCause where
  | none | released | keepLost | conflict | stopped | arrived
  deriving DecidableEq, Repr

/-- The start-up record (R64): the valid start read, the verdict of the third sample (`some true` for
loaded), and whether start-up is done. -/
structure StartupRecord where
  validRead : Bool
  verdict : Option Bool
  done : Bool
  deriving DecidableEq, Repr

/-- The Phase Controller (R61). -/
structure PhaseController where
  phase : Phase
  lastStop : StopCause
  contactTimer : Option Nat
  startup : StartupRecord
  deriving DecidableEq, Repr

/-! ### Session Unit -/

/-- The state of a session record that is not NONE (R79). -/
inductive SessionState where
  | pending | running
  deriving DecidableEq, Repr

/-- A session record in PENDING or RUNNING (R79). -/
structure Session where
  state : SessionState
  token : Token
  dir : Direction
  preset : Preset
  keep : Nat
  deriving DecidableEq, Repr

/-- The press record (R80). -/
inductive Press where
  | none
  | waiting (token : Token) (dir : Direction) (preset : Preset)
  | held (token : Token) (dir : Direction) (preset : Preset)
  | spent (token : Option Token) (dir : Direction) (preset : Option Preset)
  deriving DecidableEq, Repr

/-- The Session Unit (R97); `session` is absent for NONE. -/
structure SessionUnit where
  session : Option Session
  sequence : Byte
  press : Press
  deriving DecidableEq, Repr

/-! ### Pace Unit -/

/-- The control sample (R115). -/
structure ControlSample where
  phase : Phase
  height : Option Word
  lift : Word
  lead : Nat
  spread : Nat
  demand : Int
  deriving DecidableEq, Repr

/-- The outcome of a step window (R126). -/
inductive WindowOutcome where
  | fell | rose | unchanged | held
  deriving DecidableEq, Repr

/-- The last window record (R126). -/
structure WindowRecord where
  ceiled : Step
  deduction : Nat
  final : Step
  outcome : WindowOutcome
  deriving DecidableEq, Repr

/-- The Pace Unit with its step selector and lock monitor (R118, R135). -/
structure PaceUnit where
  timer : Option Nat
  lifting : List NodeNum
  demand : Int
  clamped : Bool
  sample : Option ControlSample
  step : Step
  windowSum : Nat
  windowCount : Nat
  lastWindow : Option WindowRecord
  sync : SyncState
  lockRun : Nat
  deriving DecidableEq, Repr

/-! ### Trip Monitor -/

/-- The switch that a TRAVEL_LIMIT flag records (R138). -/
inductive TravelSide where
  | upper | lower
  deriving DecidableEq, Repr

/-- The halt record when it holds a halt (R137). -/
structure HaltRecord where
  cause : Cause
  originator : NodeNum
  remote : Bool
  originatorLift : Word
  ownLift : Word
  peer : Option NodeNum
  token : Option Token
  deriving DecidableEq, Repr

/-- The Trip Monitor (R157). Bit (code - 1) of `flags` is the flag of that cause (0x514). -/
structure TripMonitor where
  record : Option HaltRecord
  flags : BitVec 16
  travelSide : Option TravelSide
  epoch : Option Byte
  stall : Nat
  prevHeight : Option Word
  restHeight : Option Word
  deriving DecidableEq, Repr

/-! ### Plan Store -/

/-- A neighbour of the plan: node number and tolerance in hu (R160). -/
structure Neighbour where
  node : NodeNum
  tolerance : Nat
  deriving DecidableEq, Repr

/-- The values of a plan (R160). Bit n of `membership` is node n (R186). -/
structure Plan where
  node : NodeNum
  setName : List Byte
  membership : BitVec 64
  periodCode : Nat
  kSil : Nat
  kKeep : Nat
  contactTimeout : Nat
  stallLimit : Nat
  drift : Nat
  presets : Vector Word 4
  speeds : Vector Nat 8
  thresholds : Vector Nat 8
  sMax : Nat
  window : Nat
  creep : Nat
  approach : Nat
  retract : Nat
  slowZone : Nat
  unloadZone : Word
  datum : Word
  lo : Nat
  hi : Nat
  parked : Nat
  padRating : Nat
  contactLevel : Nat
  neighbours : List Neighbour
  deriving DecidableEq, Repr

/-- The five sections of the image, in image order (R160). -/
inductive PlanSection where
  | identity | set | pace | column | neighbours
  deriving DecidableEq, Repr

/-- The checks of R165. -/
inductive PlanCheck where
  | tag | version | checksum | nodeNumber | notMember
  deriving DecidableEq, Repr

/-- The last adoption outcome (09_the_set_plan_and_start_up.md). -/
inductive AdoptionOutcome where
  | none | adopted | noMemory
  | badPlan (sec : PlanSection) (check : PlanCheck)
  deriving DecidableEq, Repr

/-- The operation in flight of the Plan Store (R159). -/
inductive StoreOperation where
  | none | load | store
  deriving DecidableEq, Repr

/-- The Plan Store (R159). -/
structure PlanStore where
  image : Memory
  plan : Option Plan
  adopted : Bool
  fingerprint : Option Word
  outcome : AdoptionOutcome
  op : StoreOperation
  storeStatus : Option (Fin 3)
  deriving DecidableEq, Repr

/-! ### Service Port -/

/-- The Service Port (R183). Bit i of `latch` and `mask` is event i + 1 of R180. While `secondRead` is set, the
second byte of a PEEK_ON is still to be read (R175; DESIGN CHOICE, log entry 23). -/
structure ServicePort where
  parser : List Byte
  pointer : Word
  pendingStore : Option (Fin 3)
  latch : BitVec 9
  mask : BitVec 9
  echo : Option Byte
  reply : List Byte
  breakHeld : Bool
  secondRead : Bool
  deriving DecidableEq, Repr

/-- The state of the node, the queue of waiting commands, and the counter of free values (DESIGN CHOICE, log entry 4). -/
structure State where
  pending : List Instr
  lau : LineAccess
  pt : PeerTable
  ci : ColumnInterface
  phc : PhaseController
  su : SessionUnit
  pu : PaceUnit
  tm : TripMonitor
  ps : PlanStore
  sp : ServicePort
  freeCount : Nat
  deriving DecidableEq, Repr

/-! ### Reset -/

/-- An entry with nothing heard (R22, R23). -/
def PeerEntry.blank (st : EntryState) : PeerEntry :=
  { state := st, report := none, silence := 0, stale := false, fresh := false }

/-- The Line Access Unit after reset (R19). -/
def LineAccess.reset : LineAccess :=
  { synced := false, lineBusy := true, run := [], last := 63, urgent := [], normal := [],
    transmitter := none, deferral := none }

/-- The Peer Table after reset (R23). -/
def PeerTable.reset : PeerTable :=
  { entries := Vector.replicate 64 (PeerEntry.blank .unlisted), periodList := [] }

/-- Levels of which none has settled (R59). -/
def FilteredLevels.unsettled : FilteredLevels :=
  { estop := none, limitUp := none, limitDown := none, nut := none, driveReady := none,
    driveFault := none, up := none, down := none, stop := none, resetReq := none, preset0 := none,
    preset1 := none, preset2 := none }

/-- The Column Interface after reset (R59): the zero word of the end of reset is in transfer (DESIGN CHOICE, log
entry 19). -/
def ColumnInterface.reset : ColumnInterface :=
  { read := .idle, height := none, invalidRun := 0, load := none, contactRun := 0, unloadRun := 0,
    lossRun := 0, overloadRun := 0, startSamples := 0, contactHeight := none, loadTimer := none,
    loadSilent := false, transfer := some { value := 0, parity := false }, nextWord := none,
    lastWord := 0, driveEnable := false, brakeRelease := false, driveNotReady := false,
    levels := .unsettled, inputsSettled := false, held := none, holdTimer := none }

/-- A start-up record with nothing noted (R63). -/
def StartupRecord.cleared : StartupRecord := { validRead := false, verdict := none, done := false }

/-- The Phase Controller after reset (R61, R74, R75). -/
def PhaseController.reset : PhaseController :=
  { phase := .unplanned, lastStop := .none, contactTimer := none, startup := .cleared }

/-- The Session Unit after reset (R97). -/
def SessionUnit.reset : SessionUnit := { session := none, sequence := 0, press := .none }

/-- The Pace Unit after reset (R118, R135). -/
def PaceUnit.reset : PaceUnit :=
  { timer := none, lifting := [], demand := 0, clamped := false, sample := none, step := 0,
    windowSum := 0, windowCount := 0, lastWindow := none, sync := .acquire, lockRun := 0 }

/-- The Trip Monitor after reset (R157). -/
def TripMonitor.reset : TripMonitor :=
  { record := none, flags := 0, travelSide := none, epoch := none, stall := 0, prevHeight := none,
    restHeight := none }

/-- The Plan Store after reset (R159). -/
def PlanStore.reset : PlanStore :=
  { image := [], plan := none, adopted := false, fingerprint := none, outcome := .none, op := .none,
    storeStatus := none }

/-- The Service Port after reset (R183): RESTARTED is bit 0 of latch and mask. -/
def ServicePort.reset : ServicePort :=
  { parser := [], pointer := 0, pendingStore := none, latch := 1, mask := 1, echo := none,
    reply := [], breakHeld := false, secondRead := false }

/-- The node right after reset. -/
def State.reset : State :=
  { pending := [], lau := .reset, pt := .reset, ci := .reset, phc := .reset, su := .reset,
    pu := .reset, tm := .reset, ps := .reset, sp := .reset, freeCount := 0 }

/-! ### Updates of one block -/

/-- The state with another queue. -/
def State.withPending (s : State) (q : List Instr) : State := { s with pending := q }
/-- The state with another Line Access Unit. -/
def State.withLau (s : State) (b : LineAccess) : State := { s with lau := b }
/-- The state with another Peer Table. -/
def State.withPt (s : State) (b : PeerTable) : State := { s with pt := b }
/-- The state with another Column Interface. -/
def State.withCi (s : State) (b : ColumnInterface) : State := { s with ci := b }
/-- The state with another Phase Controller. -/
def State.withPhc (s : State) (b : PhaseController) : State := { s with phc := b }
/-- The state with another Session Unit. -/
def State.withSu (s : State) (b : SessionUnit) : State := { s with su := b }
/-- The state with another Pace Unit. -/
def State.withPu (s : State) (b : PaceUnit) : State := { s with pu := b }
/-- The state with another Trip Monitor. -/
def State.withTm (s : State) (b : TripMonitor) : State := { s with tm := b }
/-- The state with another Plan Store. -/
def State.withPs (s : State) (b : PlanStore) : State := { s with ps := b }
/-- The state with another Service Port. -/
def State.withSp (s : State) (b : ServicePort) : State := { s with sp := b }

end Sys2Proof.Machine
end

