-- ==== Sys2Proof/Machine/Memory.lean ====
section
/-! DEFINITION. The plan image: reading and writing its 256 bytes, in canonical form (R158, R186). -/

namespace Sys2Proof.Machine

open Sys2Proof

/-- What an offset with no entry reads: the reset content of R159. -/
def Memory.blankByte : Byte := 0x00

/-- The byte at an offset of the image. -/
def Memory.read : Memory → Nat → Byte
  | [], _ => Memory.blankByte
  | (b, v) :: m, a => if b = a then v else Memory.read m a

/-- The image with one byte written, in canonical form. -/
def Memory.write : Memory → Nat → Byte → Memory
  | [], a, v => if v = Memory.blankByte then [] else [(a, v)]
  | (b, w) :: m, a, v =>
    if a < b then (if v = Memory.blankByte then (b, w) :: m else (a, v) :: (b, w) :: m)
    else if a = b then (if v = Memory.blankByte then m else (a, v) :: m)
    else (b, w) :: Memory.write m a v

/-- Canonical form from an offset on: rising offsets below 256, no blank byte listed. -/
def Memory.wfFrom : Nat → Memory → Bool
  | _, [] => true
  | low, (a, v) :: m => low ≤ a && a < 256 && v != Memory.blankByte && Memory.wfFrom (a + 1) m

/-- The image is in canonical form. -/
def Memory.wf (m : Memory) : Bool := Memory.wfFrom 0 m

/-- The image that holds a list of bytes from an offset on. -/
def Memory.ofBytesFrom : Nat → List Byte → Memory
  | _, [] => []
  | a, v :: vs =>
    if v = Memory.blankByte then Memory.ofBytesFrom (a + 1) vs
    else (a, v) :: Memory.ofBytesFrom (a + 1) vs

/-- The image that a LOAD reads: 256 bytes, and 0xFF for each byte that the memory did not drive
(R163). -/
def Memory.ofLoad (bytes : List Byte) : Memory :=
  Memory.ofBytesFrom 0 ((bytes ++ List.replicate 256 0xFF).take 256)

/-- The bytes at `count` offsets from `start`, in image order. -/
def Memory.bytes (m : Memory) (start count : Nat) : List Byte :=
  (List.range' start count).map (Memory.read m)

/-- The most significant byte of a 16-bit field (R184). -/
def hiByte (w : Word) : Byte := w.extractLsb' 8 8

/-- The least significant byte of a 16-bit field (R184). -/
def loByte (w : Word) : Byte := w.extractLsb' 0 8

/-- A 16-bit field from its two bytes, most significant first (R184). -/
def wordOf (hi lo : Byte) : Word := hi ++ lo

/-- The 16-bit field at an offset of the image. -/
def Memory.read16 (m : Memory) (a : Nat) : Word := wordOf (m.read a) (m.read (a + 1))

/-- The image with a 16-bit field written at an offset. -/
def Memory.write16 (m : Memory) (a : Nat) (w : Word) : Memory :=
  (m.write a (hiByte w)).write (a + 1) (loByte w)

end Sys2Proof.Machine
end

