-- ==== Sys2Proof/WellFormed.lean ====
section
/-! DEFINITION. When a command is one that its row of the table describes. The operand types bound node
numbers, steps, presets, causes and tokens; the checks here are those that a type does not make. -/

namespace Sys2Proof

/-- A REPORT body breaks no check of R185: no node reports UNPLANNED. -/
def ReportBody.wf (r : ReportBody) : Bool := r.phase != .unplanned

/-- A frame breaks no check of R185. -/
def Frame.wf (f : Frame) : Bool :=
  match f.body with
  | .report r => r.wf
  | .motion _ => true
  | .halt _ => true
  | .clear => true

/-- The eight codes that name a command (11_formats.md). -/
def serviceCodes : List Byte := [0x11, 0x12, 0x13, 0x14, 0x20, 0x30, 0x31, 0x3F]

/-- The command is one that its row describes. -/
def Instr.wf : Instr → Bool
  | .reset => true
  | .idleEvent _ => true
  | .lineBecomesBusy => true
  | .deferralRunsOut => true
  | .collision offset _ => offset < 20
  | .transmissionComplete => true
  | .report _ _ r => r.wf
  | .startUp _ _ _ _ => true
  | .startDown _ _ _ _ => true
  | .keepUp _ _ _ _ => true
  | .keepDown _ _ _ _ => true
  | .endSession _ _ _ => true
  | .halt _ _ _ => true
  | .clear _ _ => true
  | .controlPeriodExpiry => true
  | .positionReadComplete _ _ _ _ => true
  | .loadSample edges _ => edges == 16
  | .loadSilenceExpiry => true
  | .demandTransferComplete => true
  | .inputsSettled _ => true
  | .switchChange _ _ => true
  | .driveStatusChange _ _ => true
  | .heldDirectionChange _ _ _ => true
  | .stopPress _ => true
  | .resetReqChange _ => true
  | .resetRequestHoldExpiry => true
  | .contactTimeout => true
  | .loadComplete bytes => bytes.length == 256
  | .loadNoMemory => true
  | .storeComplete (some bytes) => bytes.length == 256
  | .storeComplete none => true
  | .storeReplySent => true
  | .peek _ => true
  | .poke _ _ => true
  | .peekOn => true
  | .pokeOn _ => true
  | .summary => true
  | .adopt => true
  | .store => true
  | .restart => true
  | .unknownCommandCode code => !serviceCodes.contains code
  | .framingError => true
  | .lineBreak sent => sent ≤ 8
  | .breakEcho => true
  | .serviceByteReceived _ => true

end Sys2Proof
end

