-- ==== Sys2Proof/Machine/Frames.lean ====
section
/-! DEFINITION. The lift bus frames: codes, CRC, the bytes that the transmitter sends, and the judging of a
run (R2, R3, R4, R184, R185; 11_formats.md). -/

namespace Sys2Proof.Machine

open Sys2Proof

/-! ### Codes -/

/-- The phase codes 0 to 9 (11_formats.md). -/
def phaseCode : Phase → Nat
  | .unplanned => 0 | .starting => 1 | .idle => 2 | .approach => 3 | .contact => 4
  | .lift => 5 | .hold => 6 | .lower => 7 | .retract => 8 | .halted => 9

/-- The phases a REPORT may carry, by code: 1 to 9 (R185). -/
def reportedPhase : Nat → Option Phase
  | 1 => some .starting | 2 => some .idle | 3 => some .approach | 4 => some .contact
  | 5 => some .lift | 6 => some .hold | 7 => some .lower | 8 => some .retract
  | 9 => some .halted | _ => none

/-- The sync state codes 0 to 2. -/
def syncCode : SyncState → Nat
  | .acquire => 0 | .track => 1 | .lock => 2

/-- The sync state of a code. -/
def syncOfCode : Nat → Option SyncState
  | 0 => some .acquire | 1 => some .track | 2 => some .lock | _ => none

/-- The cause codes 1 to 16 (R138). -/
def causeCode : Cause → Nat
  | .estop => 1 | .overload => 2 | .loadLost => 3 | .loadSilent => 4 | .differential => 5
  | .peerSilent => 6 | .stall => 7 | .drift => 8 | .encoderFault => 9 | .driveFault => 10
  | .travelLimit => 11 | .nutEngaged => 12 | .mediumFault => 13 | .contactTimeout => 14
  | .duplicateNode => 15 | .noReference => 16

/-- The sixteen causes in the order of their codes. -/
def allCauses : List Cause :=
  [.estop, .overload, .loadLost, .loadSilent, .differential, .peerSilent, .stall, .drift,
   .encoderFault, .driveFault, .travelLimit, .nutEngaged, .mediumFault, .contactTimeout,
   .duplicateNode, .noReference]

/-- The cause of a code (R138). -/
def causeOfCode (n : Nat) : Option Cause := allCauses.find? (fun c => causeCode c == n)

/-- The four frame kinds (R2). -/
inductive FrameKind where
  | report | motion | halt | clear
  deriving DecidableEq, Repr

/-- The kind of a frame. -/
def frameKind (f : Frame) : FrameKind :=
  match f.body with
  | .report _ => .report
  | .motion _ => .motion
  | .halt _ => .halt
  | .clear => .clear

/-- The sync byte (11_formats.md). -/
def syncByte : Byte := 0x9A

/-- The kind codes (11_formats.md). -/
def kindByte : FrameKind → Byte
  | .report => 0x51 | .motion => 0x52 | .halt => 0x53 | .clear => 0x54

/-! ### CRC -/

/-- One bit into the CRC register, generator x^16 + x^12 + x^5 + 1 (R3). -/
def crcBit (r : Word) (b : Bool) : Word :=
  if r.msb ^^ b then (r <<< 1) ^^^ 0x1021 else r <<< 1

/-- One byte into the CRC register, most significant bit first (R3). -/
def crcByte (r : Word) (b : Byte) : Word :=
  [7, 6, 5, 4, 3, 2, 1, 0].foldl (fun r i => crcBit r (b.getLsbD i)) r

/-- The frame check over a list of bytes: the register starts at all ones, no final inversion (R3). -/
def crc16 (bytes : List Byte) : Word := bytes.foldl crcByte 0xFFFF

/-! ### Bytes of a frame -/

/-- A number as a byte. -/
def byteOf (n : Nat) : Byte := BitVec.ofNat 8 n

/-- A flag at a bit position. -/
def bitAt (b : Bool) (i : Nat) : Nat := if b then 2 ^ i else 0

/-- REPORT offset 5: bits 0 to 3 the step, bits 4 and 5 the sync state. -/
def stepSyncByte (step : Step) (sync : SyncState) : Byte :=
  byteOf (step.val + 1 + 16 * syncCode sync)

/-- REPORT offset 6: bits 0 to 4 the cause code or 0, bit 7 the halt flag. -/
def haltByte : Option Cause → Byte
  | none => 0
  | some c => byteOf (causeCode c + 128)

/-- A token's two bytes; an absent token is 0xFF, 0xFF (R184). -/
def tokenBytes : Option Token → List Byte
  | none => [0xFF, 0xFF]
  | some t => [byteOf t.originator.val, t.sequence]

/-- REPORT offset 17: bit 0 REF_VALID, bit 1 CLAMPED, bit 2 EPOCH_KNOWN. -/
def reportFlags (refValid clamped epochKnown : Bool) : Byte :=
  byteOf (bitAt refValid 0 + bitAt clamped 1 + bitAt epochKnown 2)

/-- The peer involved, or 0xFF (R184). -/
def peerByte : Option NodeNum → Byte
  | none => 0xFF
  | some n => byteOf n.val

/-- The two bytes of a 16-bit field, most significant first. -/
def wordBytes (w : Word) : List Byte := [hiByte w, loByte w]

/-- The body bytes of a MOTION: verb, sequence, preset byte. -/
def motionBytes : Motion → List Byte
  | .start .up q p => [1, q, byteOf p.val]
  | .start .down q p => [2, q, byteOf p.val]
  | .keep .up q p => [3, q, byteOf p.val]
  | .keep .down q p => [4, q, byteOf p.val]
  | .finish t => [5, t.sequence, byteOf t.originator.val]

/-- The body bytes of a frame. -/
def bodyBytes : Body → List Byte
  | .report r =>
    [byteOf (phaseCode r.phase), stepSyncByte r.step r.sync, haltByte r.halt] ++ tokenBytes r.token
      ++ wordBytes r.lift ++ wordBytes r.height ++ wordBytes r.load ++ wordBytes r.fingerprint
      ++ [reportFlags r.refValid r.clamped r.epochKnown]
  | .motion m => motionBytes m
  | .halt h => [byteOf (causeCode h.cause)] ++ wordBytes h.lift ++ [peerByte h.peer]
  | .clear => []

/-- The bytes that the check covers: kind, sender, epoch and body (R3). -/
def coveredBytes (f : Frame) : List Byte :=
  [kindByte (frameKind f), byteOf f.sender.val, f.epochByte] ++ bodyBytes f.body

/-- The bytes that the transmitter sends: sync byte, covered bytes, CRC high byte first (R2, R14). -/
def frameBytes (f : Frame) : List Byte :=
  syncByte :: coveredBytes f ++ wordBytes (crc16 (coveredBytes f))

/-! ### Judging a run -/

/-- The step of REPORT offset 5, 1 to 8 (R185). -/
def stepOfByte (b : Byte) : Option Step :=
  let k := b.toNat % 16
  if h : 1 ≤ k ∧ k ≤ 8 then some ⟨k - 1, by omega⟩ else none

/-- The halt field of REPORT offset 6: with the flag a cause of 1 to 16, without it 0; bits 5 and 6
are ignored (R185). The outer absence is a refusal. -/
def haltOfByte (b : Byte) : Option (Option Cause) :=
  let c := b.toNat % 32
  if b.toNat / 128 = 1 then (causeOfCode c).map some
  else if c = 0 then some none else none

/-- A node number of 0 to 63. -/
def nodeOfByte (b : Byte) : Option NodeNum :=
  if h : b.toNat < 64 then some ⟨b.toNat, h⟩ else none

/-- A token field: 0xFF, 0xFF or an originator of 0 to 63 with any sequence (R185). The outer absence
is a refusal. -/
def tokenOfBytes (o q : Byte) : Option (Option Token) :=
  if o = 0xFF then (if q = 0xFF then some none else none)
  else (nodeOfByte o).map (fun n => some ⟨n, q⟩)

/-- A preset of 0 to 4 (R185). -/
def presetOfByte (b : Byte) : Option Preset :=
  if h : b.toNat < 5 then some ⟨b.toNat, h⟩ else none

/-- The peer involved: 0 to 63 or 0xFF (R185). The outer absence is a refusal. -/
def peerOfByte (b : Byte) : Option (Option NodeNum) :=
  if b = 0xFF then some none else (nodeOfByte b).map some

/-- The REPORT body of its fourteen bytes, by R185. -/
def reportOfBytes : List Byte → Option ReportBody
  | [ph, ss, ha, t0, t1, l1, l0, h1, h0, w1, w0, f1, f0, fl] => do
    let phase ← reportedPhase ph.toNat
    let step ← stepOfByte ss
    let sync ← syncOfCode (ss.toNat / 16 % 4)
    let halt ← haltOfByte ha
    let token ← tokenOfBytes t0 t1
    some { phase := phase, sync := sync, step := step, halt := halt, token := token,
           lift := wordOf l1 l0, height := wordOf h1 h0, load := wordOf w1 w0,
           fingerprint := wordOf f1 f0, refValid := fl.getLsbD 0, clamped := fl.getLsbD 1,
           epochKnown := fl.getLsbD 2 }
  | _ => none

/-- The MOTION body of its three bytes, by R185. -/
def motionOfBytes : List Byte → Option Motion
  | [v, q, p] =>
    match v.toNat with
    | 1 => (presetOfByte p).map (.start .up q)
    | 2 => (presetOfByte p).map (.start .down q)
    | 3 => (presetOfByte p).map (.keep .up q)
    | 4 => (presetOfByte p).map (.keep .down q)
    | 5 => (nodeOfByte p).map (fun n => .finish ⟨n, q⟩)
    | _ => none
  | _ => none

/-- The HALT body of its four bytes, by R185. -/
def haltOfBytes : List Byte → Option HaltBody
  | [c, l1, l0, p] => do
    let cause ← causeOfCode c.toNat
    let peer ← peerOfByte p
    some { cause := cause, lift := wordOf l1 l0, peer := peer }
  | _ => none

/-- The body of a frame by its kind byte; a body of another length than the kind's is refused (R4). -/
def bodyOfBytes (kind : Byte) (bytes : List Byte) : Option Body :=
  if kind = kindByte .report then (reportOfBytes bytes).map .report
  else if kind = kindByte .motion then (motionOfBytes bytes).map .motion
  else if kind = kindByte .halt then (haltOfBytes bytes).map .halt
  else if kind = kindByte .clear then (if bytes = [] then some .clear else none)
  else none

/-- The frame that a run of well-received bytes holds, or none when R4 discards it. -/
def frameOfBytes : List Byte → Option Frame
  | sync :: kind :: sender :: epoch :: rest => do
    let body := rest.take (rest.length - 2)
    let n ← nodeOfByte sender
    let b ← bodyOfBytes kind body
    if sync = syncByte ∧ 2 ≤ rest.length
        ∧ rest.drop (rest.length - 2) = wordBytes (crc16 ([kind, sender, epoch] ++ body))
    then some { sender := n, epochByte := epoch, body := b } else none
  | _ => none

/-- The bytes of a run when none is malformed. -/
def soundBytes : List BusByte → Option (List Byte)
  | [] => some []
  | none :: _ => none
  | some b :: r => (soundBytes r).map (b :: ·)

/-- The judging of a run at the idle event that ends it (R4): the good frame, or none for a discarded
run. -/
def judgeRun (run : List BusByte) : Option Frame :=
  if 20 < run.length then none else (soundBytes run).bind frameOfBytes

end Sys2Proof.Machine
end

