-- ==== Sys2Proof/Machine/Flags.lean ====
section
/-! DEFINITION. Flags: the event latch and mask with ATTN, the local condition set, phase classes, and the
lamps that follow phase and halt record (R61, R138, R180, R181, R182). -/

namespace Sys2Proof.Machine

open Sys2Proof

/-! ### Phase classes (R61) -/

/-- The moving phases. -/
def isMoving : Phase → Bool
  | .approach | .lift | .lower | .retract => true
  | .unplanned | .starting | .idle | .contact | .hold | .halted => false

/-- The loaded phases. -/
def isLoaded : Phase → Bool
  | .contact | .lift | .hold | .lower => true
  | .unplanned | .starting | .idle | .approach | .retract | .halted => false

/-- The phases in which the lifting set is paced. -/
def isPacing : Phase → Bool
  | .lift | .lower => true
  | .unplanned | .starting | .idle | .approach | .contact | .hold | .retract | .halted => false

/-- The phases in which the Session Unit composes nothing and takes no press (R81, R82, R84). -/
def isDeaf : Phase → Bool
  | .unplanned | .starting | .halted => true
  | .idle | .approach | .contact | .lift | .hold | .lower | .retract => false

/-- The phases that the contact timer runs in (R75). -/
def isWaitingContact : Phase → Bool
  | .approach | .contact => true
  | .unplanned | .starting | .idle | .lift | .hold | .lower | .retract | .halted => false

/-- The phases that hold a rest height (R146). -/
def isResting : Phase → Bool
  | .idle | .contact | .hold => true
  | .unplanned | .starting | .approach | .lift | .lower | .retract | .halted => false

/-! ### Events (R180) -/

/-- The nine events of R180, in their order. -/
inductive Event where
  | restarted | haltEntered | haltCleared | phase | step | lock | plan | stranger | writeRefused
  deriving DecidableEq, Repr

/-- The position of an event in latch and mask. -/
def eventIndex : Event → Nat
  | .restarted => 0 | .haltEntered => 1 | .haltCleared => 2 | .phase => 3 | .step => 4
  | .lock => 5 | .plan => 6 | .stranger => 7 | .writeRefused => 8

/-- The flag of an event. -/
def eventBit (e : Event) : BitVec 9 := BitVec.twoPow 9 (eventIndex e)

/-- Latch an event (R180): a flag already set stays set. -/
def latchEvent (e : Event) (s : State) : State :=
  s.withSp { s.sp with latch := s.sp.latch ||| eventBit e }

/-- Latch an event when a condition holds. -/
def latchWhen (b : Bool) (e : Event) (s : State) : State := if b then latchEvent e s else s

/-- ATTN is asserted while an event is both latched and enabled (R181). -/
def attention (s : State) : Bool := s.sp.latch &&& s.sp.mask != 0

/-! ### Local condition set (R138) -/

/-- The flag of a cause, at bit (code - 1). -/
def causeBit (c : Cause) : BitVec 16 := BitVec.twoPow 16 (causeCode c - 1)

/-- The flag of a cause is set. -/
def hasFlag (flags : BitVec 16) (c : Cause) : Bool := flags.getLsbD (causeCode c - 1)

/-- The flags with one more set. -/
def withFlag (flags : BitVec 16) (c : Cause) : BitVec 16 := flags ||| causeBit c

/-- The flags of the causes that satisfy a condition. -/
def flagsWhere (keep : Cause → Bool) : BitVec 16 :=
  allCauses.foldl (fun fl c => if keep c then withFlag fl c else fl) 0

/-- The persisting causes (R138). -/
def isPersisting : Cause → Bool
  | .estop | .overload | .loadSilent | .encoderFault | .driveFault | .travelLimit | .nutEngaged
  | .noReference => true
  | .loadLost | .differential | .peerSilent | .stall | .drift | .mediumFault | .contactTimeout
  | .duplicateNode => false

/-- The cause of the lowest code among the flags set (R152). -/
def lowestFlag (flags : BitVec 16) : Option Cause := allCauses.find? (hasFlag flags)

/-! ### Lamps of phase and record (R182) -/

/-- The node is halted: its halt record holds a halt (R137). -/
def isHalted (s : State) : Bool := s.tm.record.isSome

/-- LAMP_MOVING. -/
def lampMoving (s : State) : Bool := isMoving s.phc.phase

/-- LAMP_HALT. -/
def lampHalt (s : State) : Bool := isHalted s

/-- LAMP_HERE: the record holds a local halt. -/
def lampHere (s : State) : Bool :=
  match s.tm.record with
  | some r => !r.remote
  | none => false

end Sys2Proof.Machine
end

