-- ==== Sys2Proof/Machine/Operands.lean ====
section
/-! DEFINITION. What the column's lines deliver: the position word, the load sample's runs, the filtered
levels, the preset selector and the held direction (R43 to R46, R54 to R58, R184). -/

namespace Sys2Proof.Machine

open Sys2Proof

/-- A value clamped to a range (00_scope.md, "Integer arithmetic"). -/
def clampInt (lo hi x : Int) : Int := max lo (min hi x)

/-- A number clamped to the range of a height, 0 to 65,535 hu. -/
def clampHeight (x : Int) : Word := BitVec.ofInt 16 (clampInt 0 65535 x)

/-- A number clamped to the range of a lift, -32,768 to 32,767 hu. -/
def clampLift (x : Int) : Word := BitVec.ofInt 16 (clampInt (-32768) 32767 x)

/-- The parity bit that makes a 16-bit word and the bit hold an even number of ones (R42, R51). -/
def evenParity (w : Word) : Bool :=
  (List.range 16).foldl (fun p i => p ^^ w.getLsbD i) false

/-- The seventeen bits of a demand: its value and the parity bit that makes them even (R51). -/
def demandWord (w : Word) : DemandWord := { value := w, parity := evenParity w }

/-- The three tests of a position read (R43): acknowledge low, parity even, final sample high. -/
def readValid (acknowledge : Bool) (position : Word) (parity final : Bool) : Bool :=
  !acknowledge && parity == evenParity position && final

/-- The height of a valid read: the position word plus the datum offset, clamped (R43). -/
def heightOf (position datum : Word) : Word := clampHeight (position.toNat + datum.toInt)

/-- A run counter after a sample (R46). -/
def nextRun (run : Nat) (meets : Bool) : Nat := if meets then min 255 (run + 1) else 0

/-- The four runs after a sample of `load` (R46). -/
def countRuns (contactLevel padRating load : Nat) (ci : ColumnInterface) : ColumnInterface :=
  { ci with
    contactRun := nextRun ci.contactRun (contactLevel ≤ load)
    unloadRun := nextRun ci.unloadRun (load < contactLevel)
    lossRun := nextRun ci.lossRun (load < contactLevel / 2)
    overloadRun := nextRun ci.overloadRun (padRating < load) }

/-- The column is loaded in the CI's sense (R46). -/
def columnLoaded (ci : ColumnInterface) : Bool := 3 ≤ ci.contactRun

/-- The encoder fault condition (R44). -/
def encoderFaulty (ci : ColumnInterface) : Bool := 2 ≤ ci.invalidRun

/-- The drive fault condition (R53). -/
def driveFaulty (ci : ColumnInterface) : Bool := ci.levels.driveFault == some true || ci.driveNotReady

/-- The held direction of the levels of UP and DOWN (R56). -/
def heldOf : Option Bool → Option Bool → Option Direction
  | some true, some true => none
  | some true, _ => some .up
  | _, some true => some .down
  | _, _ => none

/-- The number that the selector lines form: PRESET0 counts 1, PRESET1 2, PRESET2 4 (R58). -/
def selectorValue (l : FilteredLevels) : Nat :=
  bitAt (l.preset0 == some true) 0 + bitAt (l.preset1 == some true) 1
    + bitAt (l.preset2 == some true) 2

/-- The preset a press carries: 1 to 4, and 0 for the values 0 and 5 to 7 (R58). -/
def selectedPreset (l : FilteredLevels) : Preset :=
  let n := selectorValue l
  if h : n < 5 then ⟨n, h⟩ else 0

/-- The levels at which every line has settled: a line settled before keeps its level (DESIGN CHOICE, log entry 6). -/
def settleLevels (old : FilteredLevels) (l : LineLevels) : FilteredLevels :=
  { estop := some (old.estop.getD l.estop)
    limitUp := some (old.limitUp.getD l.limitUp)
    limitDown := some (old.limitDown.getD l.limitDown)
    nut := some (old.nut.getD l.nut)
    driveReady := some (old.driveReady.getD l.driveReady)
    driveFault := some (old.driveFault.getD l.driveFault)
    up := some (old.up.getD l.up)
    down := some (old.down.getD l.down)
    stop := some (old.stop.getD l.stop)
    resetReq := some (old.resetReq.getD l.resetReq)
    preset0 := some (old.preset0.getD l.preset0)
    preset1 := some (old.preset1.getD l.preset1)
    preset2 := some (old.preset2.getD l.preset2) }

/-- The filtered level of a safety line. -/
def safetyLevel (l : FilteredLevels) : SafetyLine → Option Bool
  | .estop => l.estop
  | .limitUp => l.limitUp
  | .limitDown => l.limitDown
  | .nut => l.nut

/-- The levels with a safety line at a new level. -/
def withSafetyLevel (l : FilteredLevels) (line : SafetyLine) (b : Bool) : FilteredLevels :=
  match line with
  | .estop => { l with estop := some b }
  | .limitUp => { l with limitUp := some b }
  | .limitDown => { l with limitDown := some b }
  | .nut => { l with nut := some b }

/-- The filtered level of a drive status line. -/
def driveLevel (l : FilteredLevels) : DriveLine → Option Bool
  | .ready => l.driveReady
  | .fault => l.driveFault

/-- The levels with a drive status line at a new level. -/
def withDriveLevel (l : FilteredLevels) (line : DriveLine) (b : Bool) : FilteredLevels :=
  match line with
  | .ready => { l with driveReady := some b }
  | .fault => { l with driveFault := some b }

end Sys2Proof.Machine
end

