-- ==== Sys2Proof/Machine/Peers.lean ====
section
/-! DEFINITION. The Peer Table: entries, ageing, adoption, and the views it offers (R21 to R40). -/

namespace Sys2Proof.Machine

open Sys2Proof

/-- The sixty-four node numbers in ascending order. -/
def allNodes : List NodeNum := List.finRange 64

/-- The entry of a number. -/
def PeerTable.entry (t : PeerTable) (j : NodeNum) : PeerEntry := t.entries[j]

/-- The table with one entry replaced. -/
def PeerTable.setEntry (t : PeerTable) (j : NodeNum) (e : PeerEntry) : PeerTable :=
  { t with entries := t.entries.set j.val e j.isLt }

/-- The table with every entry changed. -/
def PeerTable.mapEntries (t : PeerTable) (f : NodeNum → PeerEntry → PeerEntry) : PeerTable :=
  { t with entries := t.entries.mapFinIdx (fun i e h => f ⟨i, h⟩ e) }

/-- A number is in the membership (R186). -/
def isMember (p : Plan) (n : NodeNum) : Bool := p.membership.getLsbD n.val

/-! ### A REPORT arrives (R26, R27) -/

/-- The state an entry moves to at a report; the node's own fingerprint is absent while the plan is
marked unadopted (R26). -/
def stateAfterReport (own : Option Word) (fingerprint : Word) : EntryState → EntryState
  | .unlisted => .stranger
  | .stranger => .stranger
  | .expected | .live | .mismatched | .silent =>
    if own = some fingerprint then .live else .mismatched
  | .self => .self

/-- The reported fields of a REPORT (R21): its epoch is unknown when EPOCH_KNOWN is clear. -/
def reportedOf (epochByte : Byte) (r : ReportBody) : Reported :=
  { phase := r.phase, sync := r.sync, step := r.step, halt := r.halt, token := r.token,
    lift := r.lift, height := r.height, load := r.load,
    epoch := if r.epochKnown then some epochByte else none,
    fingerprint := r.fingerprint, refValid := r.refValid, clamped := r.clamped }

/-- The entry after a report (R26, R27). -/
def recordReport (own : Option Word) (epochByte : Byte) (r : ReportBody) (e : PeerEntry) :
    PeerEntry :=
  { state := stateAfterReport own r.fingerprint e.state
    report := some (reportedOf epochByte r)
    silence := 0
    stale := false
    fresh := true }

/-! ### The control period expiry (R31, R32) -/

/-- The period list: the numbers of the entries whose fresh marker is set (R31). -/
def freshNodes (t : PeerTable) : List NodeNum := allNodes.filter (fun j => (t.entry j).fresh)

/-- An entry after an expiry: the fresh marker is cleared, the silence count rises, and an entry that
reaches K_sil changes state (R31, R32). -/
def ageEntry (kSil : Nat) (e : PeerEntry) : PeerEntry :=
  match e.state with
  | .live | .mismatched =>
    if kSil ≤ e.silence + 1 then { e with state := .silent, silence := kSil, fresh := false }
    else { e with silence := e.silence + 1, fresh := false }
  | .stranger =>
    if kSil ≤ e.silence + 1 then PeerEntry.blank .unlisted
    else { e with silence := e.silence + 1, fresh := false }
  | .unlisted | .expected | .silent | .self => { e with fresh := false }

/-- The table after an expiry (R31, R32). -/
def PeerTable.age (kSil : Nat) (t : PeerTable) : PeerTable :=
  { t.mapEntries (fun _ e => ageEntry kSil e) with periodList := freshNodes t }

/-- The LIVE entries that an expiry takes to SILENT, in ascending order (R33). -/
def fallingSilent (kSil : Nat) (t : PeerTable) : List NodeNum :=
  allNodes.filter (fun j => (t.entry j).state == .live && kSil ≤ (t.entry j).silence + 1)

/-! ### Clear, adoption and loss of the plan (R24, R25, R35) -/

/-- Every halt-stale marker set (R35). -/
def PeerTable.markStale (t : PeerTable) : PeerTable :=
  t.mapEntries (fun _ e => { e with stale := true })

/-- An entry at adoption of a plan (R24). The markers of an UNLISTED entry are cleared (R35, DEDUCED, log
entry 25). -/
def adoptEntry (p : Plan) (j : NodeNum) (e : PeerEntry) : PeerEntry :=
  if j = p.node then PeerEntry.blank .self
  else if isMember p j then PeerEntry.blank .expected
  else
    match e.state with
    | .stranger => if p.kSil ≤ e.silence then PeerEntry.blank .unlisted else e
    | .unlisted | .expected | .live | .mismatched | .silent | .self => PeerEntry.blank .unlisted

/-- The table at adoption (R24). -/
def PeerTable.adopt (p : Plan) (t : PeerTable) : PeerTable := t.mapEntries (adoptEntry p)

/-! ### Views (R37 to R40) -/

/-- The report of a live entry (R37). -/
def liveReport (e : PeerEntry) : Option Reported :=
  if e.state = .live then e.report else none

/-- A peer is seen halted (R37). -/
def seenHalted (e : PeerEntry) : Bool :=
  match liveReport e with
  | some r => r.halt.isSome && !e.stale
  | none => false

/-- The report of a live entry that is not seen halted. -/
def runningReport (e : PeerEntry) : Option Reported :=
  if seenHalted e then none else liveReport e

/-- The report of a loaded peer: live, with REF_VALID set (R37). -/
def loadedReport (e : PeerEntry) : Option Reported :=
  (liveReport e).filter (·.refValid)

/-- The stranger count (R28). -/
def strangerCount (t : PeerTable) : Nat :=
  (allNodes.filter (fun j => (t.entry j).state == .stranger)).length

/-- No entry is a stranger. -/
def noStranger (t : PeerTable) : Bool := allNodes.all (fun j => (t.entry j).state != .stranger)

/-- Set complete under a plan (R38). -/
def setComplete (p : Plan) (t : PeerTable) : Bool :=
  noStranger t
    && allNodes.all (fun j => !isMember p j || j == p.node || (t.entry j).state == .live)

/-- Set complete of the node; false while it is UNPLANNED (R179). -/
def nodeSetComplete (s : State) : Bool :=
  match s.ps.plan with
  | some p => setComplete p s.pt
  | none => false

/-- Matching peers for a token and a phase, ascending, with their reports (R39). -/
def matchingPeers (own : NodeNum) (t : PeerTable) (tok : Token) (ph : Phase) :
    List (NodeNum × Reported) :=
  allNodes.filterMap (fun j =>
    if j = own then none
    else
      match runningReport (t.entry j) with
      | some r => if r.token = some tok ∧ r.phase = ph then some (j, r) else none
      | none => none)

/-- A member satisfies membership agreement for a token and a set of phases (R39). -/
def memberAgrees (t : PeerTable) (tok : Token) (phases : List Phase) (j : NodeNum) : Bool :=
  match runningReport (t.entry j) with
  | some r => r.token == some tok && phases.contains r.phase
  | none => false

/-- Membership agreement (R39). -/
def membershipAgreement (p : Plan) (t : PeerTable) (tok : Token) (phases : List Phase) : Bool :=
  noStranger t
    && allNodes.all (fun j => !isMember p j || j == p.node || memberAgrees t tok phases j)

/-- Live loaded neighbours in the plan's order, with the reported lift (R40). -/
def loadedNeighbours (p : Plan) (t : PeerTable) : List (Neighbour × Word) :=
  p.neighbours.filterMap (fun n => (loadedReport (t.entry n.node)).map (fun r => (n, r.lift)))

/-- Live loaded peers in ascending order, with the reported lift (R40). -/
def loadedPeers (t : PeerTable) : List (NodeNum × Word) :=
  allNodes.filterMap (fun j => (loadedReport (t.entry j)).map (fun r => (j, r.lift)))

/-- LAMP_READY: set complete, no halt, epoch known (R182). -/
def lampReady (s : State) : Bool := nodeSetComplete s && !isHalted s && s.tm.epoch.isSome

end Sys2Proof.Machine
end

