-- ==== Sys2Proof/Machine/Lanes.lean ====
section
/-! DEFINITION. The Line Access Unit's operations: the lanes, the deferral, the idle event, composing a
frame, and a frame coming back from a collision (R8 to R16). -/

namespace Sys2Proof.Machine

open Sys2Proof

/-- The node's own number; read only while a plan is in force (R158). -/
def ownNode (s : State) : NodeNum :=
  match s.ps.plan with
  | some p => p.node
  | none => 0

/-- The epoch byte of a composed REPORT, MOTION or HALT (R8). -/
def ownEpochByte (s : State) : Byte := s.tm.epoch.getD 0xFF

/-- HALT and CLEAR go by the urgent lane (R9). -/
def isUrgent (f : Frame) : Bool :=
  match frameKind f with
  | .halt | .clear => true
  | .report | .motion => false

/-- The queued frame stays and the new one of its kind is dropped: a HALT behind a HALT (R9), and a
KEEP behind a START of the same token (R10). -/
def keepsQueued (queued new : Frame) : Bool :=
  match queued.body, new.body with
  | .halt _, .halt _ => true
  | .motion (.start _ q _), .motion (.keep _ q' _) => queued.sender == new.sender && q == q'
  | _, _ => false

/-- A lane after a newly composed frame is dealt with (R9, R10): it joins at the tail, is dropped, or
replaces the queued frame of its kind in its place, with its attempt count. -/
def joinLane (lane : List Queued) (f : Frame) : List Queued :=
  match lane.find? (fun q => frameKind q.frame == frameKind f) with
  | none => lane ++ [{ frame := f, attempts := 0 }]
  | some old =>
    if keepsQueued old.frame f then lane
    else lane.map (fun q =>
      if frameKind q.frame == frameKind f then { q with frame := f } else q)

/-- A lane after a collided frame has come back to its head (R16): a newer frame of its kind is settled
against it as by R9 and R10, and the head keeps the attempt count. -/
def returnToLane (lane : List Queued) (q : Queued) : List Queued :=
  match lane.find? (fun n => frameKind n.frame == frameKind q.frame) with
  | none => q :: lane
  | some n =>
    (if keepsQueued q.frame n.frame then q else { q with frame := n.frame })
      :: lane.filter (fun n => frameKind n.frame != frameKind q.frame)

/-- The head frame (R12). -/
def headFrame (l : LineAccess) : Option Queued :=
  match l.urgent with
  | q :: _ => some q
  | [] => l.normal.head?

/-- The rank of the node (R12). -/
def rank (own last : NodeNum) : Nat := (own - last - 1 : Fin 64).val

/-- The deferral of a head frame in slots (R12). -/
def deferralSlots (own last : NodeNum) (q : Queued) : Nat :=
  if isUrgent q.frame && q.attempts == 0 then 2 else 4 + rank own last

/-- The count of the deferral started afresh for the head frame, if the lanes hold one (R13). -/
def startDeferral (own : NodeNum) (l : LineAccess) : LineAccess :=
  { l with
    deferral := (headFrame l).map (fun q => { slots := 0, needed := deferralSlots own l.last q }) }

/-- The deferral after a frame has joined the lanes on an idle line (R13): the count starts when none
ran, is recomputed with its slots kept when the frame became the head by joining an empty urgent
lane, and is left as it is otherwise. -/
def deferAfterJoin (own : NodeNum) (before after : LineAccess) : LineAccess :=
  if after.lineBusy || after.transmitter.isSome then after
  else
    match after.deferral with
    | none => startDeferral own after
    | some d =>
      if before.urgent.isEmpty && !after.urgent.isEmpty then
        { after with
          deferral := (headFrame after).map
            (fun q => { d with needed := deferralSlots own after.last q }) }
      else after

/-- The Line Access Unit after a frame has joined its lane. -/
def lauJoin (own : NodeNum) (l : LineAccess) (f : Frame) : LineAccess :=
  deferAfterJoin own l
    (if isUrgent f then { l with urgent := joinLane l.urgent f }
     else { l with normal := joinLane l.normal f })

/-- A composed frame joins its lane (R8 to R10). No frame is composed while no plan is in force (R18). -/
def compose (f : Frame) (s : State) : State :=
  match s.ps.plan with
  | none => s
  | some p => s.withLau (lauJoin p.node s.lau f)

/-- The frame of a MOTION of this node, as composed now (R8). -/
def ownMotion (m : Motion) (s : State) : Frame :=
  { sender := ownNode s, epochByte := ownEpochByte s, body := .motion m }

/-- Compose a MOTION (R81 to R85). -/
def composeMotion (m : Motion) (s : State) : State := compose (ownMotion m s) s

/-- The Line Access Unit at an idle event that leaves `last` at `n`: the line is idle, the framer holds no
bytes, and the deferral starts when the lanes hold a frame (R1, R4, R13). -/
def lauIdle (s : State) (n : NodeNum) : LineAccess :=
  startDeferral (ownNode s) { s.lau with synced := true, lineBusy := false, run := [], last := n }

/-- The idle event of the line (R1, R4, R13). -/
def lineIdle (n : NodeNum) (s : State) : State := s.withLau (lauIdle s n)

/-- The Line Access Unit after a collided frame has come back to the head of its own lane (R16). -/
def lauReturn (l : LineAccess) (q : Queued) : LineAccess :=
  if isUrgent q.frame then { l with transmitter := none, urgent := returnToLane l.urgent q }
  else { l with transmitter := none, normal := returnToLane l.normal q }

/-- The Line Access Unit after the transmitter has taken the head frame and begun to send (R13). -/
def lauTakeHead (l : LineAccess) : LineAccess :=
  match l.urgent with
  | q :: rest =>
    { l with urgent := rest, transmitter := some q, deferral := none, lineBusy := true, run := [] }
  | [] =>
    match l.normal with
    | q :: rest =>
      { l with normal := rest, transmitter := some q, deferral := none, lineBusy := true, run := [] }
    | [] => l

end Sys2Proof.Machine
end

