-- ==== Sys2Proof/Machine/Ops.lean ====
section
/-! DEFINITION. The operations that the commands share: the drive outputs, local trips and halts, changes of
phase with their hand-offs, sessions, clears and start-up (R49 to R53, R62 to R94, R137 to R157). -/

namespace Sys2Proof.Machine

open Sys2Proof

/-! ### The drive (R51, R52) -/

/-- A demand goes to the drive as a demand word: at once, or at the end of the transfer in flight (R51, DESIGN
CHOICE, log entry 5). -/
def sendWord (w : Word) (ci : ColumnInterface) : ColumnInterface :=
  match ci.transfer with
  | none => { ci with transfer := some (demandWord w) }
  | some _ => { ci with nextWord := some (demandWord w) }

/-- The drive lines asserted or negated together (R52). -/
def setDrive (b : Bool) (ci : ColumnInterface) : ColumnInterface :=
  { ci with driveEnable := b, brakeRelease := b }

/-- The drive outputs made safe: both lines negated, a zero word sent, the demand 0 at once (R51, R52). -/
def safeDrive (s : State) : State :=
  (s.withCi (sendWord 0 (setDrive false s.ci))).withPu { s.pu with demand := 0 }

/-! ### Lifts -/

/-- The lift of the node's last control sample, or 0 when there is none (R137). -/
def sampleLift (s : State) : Word :=
  match s.pu.sample with
  | some c => c.lift
  | none => 0

/-- The node's lift for the other blocks: that of the last computation, and 0 at once while h_c is
invalid (R101). -/
def nodeLift (s : State) : Word := if s.ci.contactHeight.isSome then sampleLift s else 0

/-- The node's lift stands above the plan's unload zone (R71, R142). -/
def aboveUnloadZone (p : Plan) (s : State) : Bool := p.unloadZone.toInt < (nodeLift s).toInt

/-! ### What a change of phase does in each block (R62) -/

/-- The contact timeout of the plan in microseconds (R75). -/
def contactTime (s : State) : Option Nat := s.ps.plan.map (fun p => p.contactTimeout * 1000000)

/-- The contact timer at a change of phase (R75). -/
def contactTimerAt (old new : Phase) (s : State) : Option Nat :=
  if isWaitingContact new then
    (if isWaitingContact old then s.phc.contactTimer else contactTime s)
  else none

/-- The Pace Unit at a change of phase: into LIFT or LOWER the own step is 1, the window restarted and the
sync state ACQUIRE; out of them the sync state is ACQUIRE (R62, R128, R133, R134). -/
def paceAt (old new : Phase) (pu : PaceUnit) : PaceUnit :=
  let pu := if isPacing old || isPacing new then { pu with sync := .acquire, lockRun := 0 } else pu
  if isPacing new then { pu with step := 0, windowSum := 0, windowCount := 0 } else pu

/-- The state after the phase has become `new`, with what the PHC, the Pace Unit, the Trip Monitor's rest
height and the Service Port's events make of it (R62, R75, R127, R132, R146). -/
def enterPhase (new : Phase) (s : State) : State :=
  let old := s.phc.phase
  let s1 := s.withPhc { s.phc with phase := new, contactTimer := contactTimerAt old new s }
  let s2 := s1.withPu (paceAt old new s.pu)
  let s3 := s2.withTm { s.tm with restHeight := if isResting new then s.ci.height else none }
  latchEvent .phase
    (latchWhen (s2.pu.step != s.pu.step) .step
      (latchWhen (s2.pu.sync != s.pu.sync) .lock s3))

/-! ### Where causes are detected (R141, R142) -/

/-- The switch causes that hold in a phase at the filtered levels, in the order of R141's table, with the
side that a TRAVEL_LIMIT records. -/
def switchCauses (ph : Phase) (l : FilteredLevels) : List (Cause × Option TravelSide) :=
  (if ph != .unplanned && l.estop == some true then [(.estop, none)] else [])
    ++ (if ph != .unplanned && l.driveFault == some true then [(.driveFault, none)] else [])
    ++ (if (isLoaded ph || isMoving ph) && l.nut == some true then [(.nutEngaged, none)] else [])
    ++ (if (ph == .approach || ph == .lift) && l.limitUp == some true then
          [(.travelLimit, some .upper)] else [])
    ++ (if (ph == .lower || ph == .retract) && l.limitDown == some true then
          [(.travelLimit, some .lower)] else [])

/-- OVERLOAD holds: two samples or more above the rating, in a checked phase (R142). -/
def overloadHolds (ph : Phase) (ci : ColumnInterface) : Bool :=
  (isLoaded ph || ph == .approach) && 2 ≤ ci.overloadRun

/-- LOAD_LOST holds: three samples or more below half the contact level, in a checked phase (R142). -/
def loadLostHolds (p : Plan) (s : State) : Bool :=
  (s.phc.phase == .contact || s.phc.phase == .lift || s.phc.phase == .hold
    || (s.phc.phase == .lower && aboveUnloadZone p s)) && 3 ≤ s.ci.lossRun

/-- The load causes that hold in the phase the node is in (R142). -/
def loadCauses (s : State) : List (Cause × Option TravelSide) :=
  match s.ps.plan with
  | none => []
  | some p =>
    (if overloadHolds s.phc.phase s.ci then [(.overload, none)] else [])
      ++ (if loadLostHolds p s then [(.loadLost, none)] else [])

/-! ### Halting (R77, R94, R137, R139, R148, R149) -/

/-- The flag of a cause is set, and the side of a TRAVEL_LIMIT recorded (R138). -/
def setFlag (c : Cause) (side : Option TravelSide) (s : State) : State :=
  s.withTm { s.tm with
    flags := withFlag s.tm.flags c
    travelSide := match side with
      | some d => some d
      | none => s.tm.travelSide }

/-- The press record at a halt (R85, R94). -/
def pressAtHalt (held : Option Direction) : Press → Press
  | .waiting t d p => .spent (some t) d (some p)
  | .held t d p => .spent (some t) d (some p)
  | .spent t d p => .spent t d p
  | .none =>
    match held with
    | some d => .spent none d none
    | none => .none

/-- The token that a WAITING press's END carries (R85). -/
def waitingToken : Press → Option Token
  | .waiting t _ _ => some t
  | .held _ _ _ | .spent _ _ _ | .none => none

/-- Compose the END of a press that was WAITING, if it was (R85). -/
def composeEndOf (pr : Press) (s : State) : State :=
  match waitingToken pr with
  | some t => composeMotion (.finish t) s
  | none => s

/-- The session ends as part of a halt, and a WAITING press composes its END (R94). -/
def endSessionInHalt (s : State) : State :=
  composeEndOf s.su.press
    (s.withSu { s.su with session := none, press := pressAtHalt s.ci.held s.su.press })

/-- The halt order (R77): the drive outputs are made safe and the phase becomes HALTED; the change to
HALTED brings its own re-read of the switches, which finds the node halted (R62, R140, R141). -/
def haltOrder (s : State) : State :=
  let s1 := safeDrive s
  if s1.phc.phase = .halted then s1
  else (switchCauses .halted s1.ci.levels).foldl (fun t c => setFlag c.1 c.2 t) (enterPhase .halted s1)

/-- What a halt of this node brings once its record is filled (R139, R149). -/
def applyHalt (r : HaltRecord) (s : State) : State :=
  latchEvent .haltEntered
    (endSessionInHalt (haltOrder (s.withTm { s.tm with record := some r })))

/-- The halt record of a local halt (R137). -/
def localRecord (c : Cause) (peer : Option NodeNum) (s : State) : HaltRecord :=
  { cause := c, originator := ownNode s, remote := false, originatorLift := sampleLift s,
    ownLift := sampleLift s, peer := peer, token := s.su.session.map (·.token) }

/-- The HALT frame of a local halt (R148). -/
def haltFrame (c : Cause) (peer : Option NodeNum) (s : State) : Frame :=
  { sender := ownNode s, epochByte := ownEpochByte s,
    body := .halt { cause := c, lift := sampleLift s, peer := peer } }

/-- The node halts on a cause of its own (R139): the HALT frame is composed and the halt applied. -/
def localHalt (c : Cause) (peer : Option NodeNum) (s : State) : State :=
  applyHalt (localRecord c peer s) (compose (haltFrame c peer s) s)

/-- A halt learnt from the line (R149, R150): no flag is set and no frame composed. -/
def remoteHalt (c : Cause) (originator : NodeNum) (lift : Word) (peer : Option NodeNum) (s : State) :
    State :=
  applyHalt
    { cause := c, originator := originator, remote := true, originatorLift := lift,
      ownLift := sampleLift s, peer := peer, token := s.su.session.map (·.token) } s

/-- A local trip (R138 to R140): none while the node is UNPLANNED; the flag is set; a node that is not
halted halts. -/
def trip (c : Cause) (side : Option TravelSide) (peer : Option NodeNum) (s : State) : State :=
  match s.ps.plan with
  | none => s
  | some _ =>
    if isHalted s then setFlag c side s else localHalt c peer (setFlag c side s)

/-- Local trips that meet, one after the other (R147, DESIGN CHOICE, log entry 8). -/
def tripAll (cs : List (Cause × Option TravelSide)) (s : State) : State :=
  cs.foldl (fun t c => trip c.1 c.2 none t) s

/-! ### Changing phase (R62) -/

/-- The Column Interface at a change of phase (R49, R52, R53): h_c becomes invalid on entry into RETRACT;
into the moving phases the ready test comes before the lines are asserted; out of them the drive is
made safe. DRIVE_READY without a filtered level is not low: it passes the test (DESIGN CHOICE, log entry 32). -/
def columnAt (old new : Phase) (s : State) : State :=
  let s := if new = .retract then s.withCi { s.ci with contactHeight := none } else s
  if isMoving new && !isMoving old then
    if s.ci.levels.driveReady = some false then
      trip .driveFault none none (s.withCi { s.ci with driveNotReady := true })
    else if isHalted s then s
    else s.withCi (setDrive true s.ci)
  else if isMoving old && !isMoving new then safeDrive s
  else s

/-- A change of phase other than the halt order (R62): nothing when the phase is held already; the Trip
Monitor's re-read is passed over when the ready test has halted the node. -/
def changePhase (new : Phase) (s : State) : State :=
  if s.phc.phase = new then s
  else
    let s1 := columnAt s.phc.phase new (enterPhase new s)
    if s1.phc.phase = new then tripAll (switchCauses new s1.ci.levels ++ loadCauses s1) s1 else s1

/-- The last stop cause set (R74). -/
def setLastStop (c : StopCause) (s : State) : State := s.withPhc { s.phc with lastStop := c }

/-! ### Sessions (R66, R67, R73, R86 to R93) -/

/-- The phase that an accepted session moves the node to, if it moves it (R66). -/
def phaseOnAccept (s : State) (dir : Direction) : Option Phase :=
  match s.phc.phase, dir with
  | .idle, .up => if s.ps.adopted then some .approach else none
  | .hold, .up => some .contact
  | _, _ => none

/-- The PHC is told that a session was accepted (R66). -/
def tellAccepted (dir : Direction) (s : State) : State :=
  match phaseOnAccept s dir with
  | some p => changePhase p s
  | none => s

/-- A session accepted in STARTING or HALTED reaches the phase at the entry into IDLE or HOLD (R67). -/
def applyPending (s : State) : State :=
  match s.su.session with
  | some ss =>
    if ss.state = .pending ∧ (s.phc.phase = .idle ∨ s.phc.phase = .hold) then tellAccepted ss.dir s
    else s
  | none => s

/-- The press record when the record takes a token (R87). -/
def pressOnAccept (tok : Token) : Press → Press
  | .waiting t d p => if t = tok then .held t d p else .waiting t d p
  | .held t d p => .held t d p
  | .spent t d p => .spent t d p
  | .none => .none

/-- A START or KEEP that finds the record NONE is accepted (R87, DEDUCED, log entry 14). -/
def acceptSession (tok : Token) (dir : Direction) (preset : Preset) (s : State) : State :=
  tellAccepted dir
    (s.withSu { s.su with
      session := some { state := .pending, token := tok, dir := dir, preset := preset, keep := 0 }
      press := pressOnAccept tok s.su.press })

/-- The phase that a session end with a stop cause leaves the node in (R73). -/
def phaseOnEnd : Phase → Phase
  | .approach => .idle
  | .contact => .hold
  | .lift => .hold
  | .lower => .hold
  | .retract => .idle
  | .idle => .idle
  | .hold => .hold
  | .starting => .starting
  | .halted => .halted
  | .unplanned => .unplanned

/-- The end of a session is recorded as the last stop cause (R74). -/
def endIsRecorded (ph : Phase) (st : SessionState) : Bool :=
  match ph with
  | .approach | .contact | .lift | .lower | .retract => true
  | .idle | .hold => st == .pending
  | .starting | .halted | .unplanned => false

/-- The PHC is told that a session ended with a stop cause (R73, R74). -/
def tellEnded (c : StopCause) (st : SessionState) (s : State) : State :=
  changePhase (phaseOnEnd s.phc.phase)
    (if endIsRecorded s.phc.phase st then setLastStop c s else s)

/-- The press record when a session ends with a stop cause (R85, R93). -/
def pressOnEnd (c : StopCause) (ended : Token) : Press → Press
  | .held t d p => if t = ended then .spent (some t) d (some p) else .held t d p
  | .waiting t d p => if c = .conflict then .spent (some t) d (some p) else .waiting t d p
  | .spent t d p => .spent t d p
  | .none => .none

/-- A session ends with a stop cause (R93): the record is NONE, then the press, then the PHC is told. -/
def endSession (c : StopCause) (s : State) : State :=
  match s.su.session with
  | none => s
  | some ss =>
    let s1 := s.withSu { s.su with session := none, press := pressOnEnd c ss.token s.su.press }
    let s2 := if c = .conflict then composeEndOf s.su.press s1 else s1
    tellEnded c ss.state s2

/-- A START or KEEP is taken (R87 to R90). -/
def takeStartOrKeep (tok : Token) (dir : Direction) (preset : Preset) (s : State) : State :=
  match s.su.session with
  | none => acceptSession tok dir preset s
  | some ss =>
    if ss.token = tok then
      if ss.dir = dir then s.withSu { s.su with session := some { ss with keep := 0 } }
      else endSession .conflict s
    else if ss.token.originator = tok.originator then
      acceptSession tok dir preset (endSession .released s)
    else endSession .conflict s

/-- An END is taken (R91). -/
def takeEnd (sender : NodeNum) (tok : Token) (s : State) : State :=
  match s.su.session with
  | none => s
  | some ss =>
    if ss.token = tok then
      endSession (if sender = tok.originator then .released else .stopped) s
    else s

/-- A MOTION is taken from a member of the plan in force, and from no other sender (R86). -/
def takeMotion (sender : NodeNum) (m : Motion) (s : State) : State :=
  match s.ps.plan with
  | none => s
  | some p =>
    if isMember p sender then
      match m with
      | .start dir seq preset => takeStartOrKeep ⟨sender, seq⟩ dir preset s
      | .keep dir seq preset => takeStartOrKeep ⟨sender, seq⟩ dir preset s
      | .finish tok => takeEnd sender tok s
    else s

/-! ### HALT and CLEAR frames (R149, R152 to R156) -/

/-- A HALT is taken from a member; a halted node ignores it (R149). -/
def takeHalt (sender : NodeNum) (h : HaltBody) (s : State) : State :=
  match s.ps.plan with
  | none => s
  | some p =>
    if isMember p sender && !isHalted s then remoteHalt h.cause sender h.lift h.peer s else s

/-- A persisting flag is kept at a clear while its condition holds (R153). -/
def conditionHolds (s : State) : Cause → Bool
  | .estop => s.ci.levels.estop == some true
  | .overload => 2 ≤ s.ci.overloadRun
  | .loadSilent => s.ci.loadSilent
  | .encoderFault => encoderFaulty s.ci
  | .driveFault => driveFaulty s.ci
  | .travelLimit =>
    match s.tm.travelSide with
    | some .upper => s.ci.levels.limitUp == some true
    | some .lower => s.ci.levels.limitDown == some true
    | none => false
  | .nutEngaged => s.ci.levels.nut == some true
  | .noReference => false
  | .loadLost | .differential | .peerSilent | .stall | .drift | .mediumFault | .contactTimeout
  | .duplicateNode => false

/-- The flags that stay set at a clear (R152, R153). -/
def keptFlags (s : State) : BitVec 16 :=
  flagsWhere (fun c => hasFlag s.tm.flags c && isPersisting c && conditionHolds s c)

/-- The least of a list of lifts. -/
def leastLift (ls : List Word) : Option Int := (ls.map (·.toInt)).min?

/-- The lift that reference adoption takes (R154): the lowest of the live loaded neighbours, else of the
live loaded peers, else 0. -/
def referenceLift (p : Plan) (t : PeerTable) : Int :=
  match leastLift ((loadedNeighbours p t).map (·.2)) with
  | some l => l
  | none =>
    match leastLift ((loadedPeers t).map (·.2)) with
    | some l => l
    | none => 0

/-- NO_REFERENCE is resolved (R154): a loaded column with h_c invalid adopts a reference when the flag is
set, or when the clear finds the node halted with its start-up done. -/
def resolveReference (p : Plan) (wasHalted : Bool) (s : State) : State :=
  match s.ci.contactHeight, s.ci.height with
  | none, some h =>
    if columnLoaded s.ci
        && (hasFlag s.tm.flags .noReference || (wasHalted && s.phc.startup.done)) then
      s.withCi { s.ci with contactHeight := some (clampHeight (h.toNat - referenceLift p s.pt)) }
    else s
  | _, _ => s

/-- The phase a cleared node enters (R78). -/
def phaseOnClear (s : State) : Phase :=
  if s.phc.startup.done then (if columnLoaded s.ci then .hold else .idle) else .starting

/-- The halt is reported cleared (R78, R152): HALT_CLEARED latches, the PHC chooses the phase, and a
PENDING session is applied (R67). -/
def reportCleared (s : State) : State :=
  applyPending (changePhase (phaseOnClear s) (latchEvent .haltCleared s))

/-- Steps 1 to 5 of a clear (R152): the epoch, the empty record, the stale markers, the resolution of
NO_REFERENCE and the flags that stay. -/
def clearSteps (p : Plan) (e : Byte) (s : State) : State :=
  let s1 := (s.withTm { s.tm with epoch := some e, record := none }).withPt s.pt.markStale
  let s2 := resolveReference p (isHalted s) s1
  s2.withTm { s2.tm with
    flags := keptFlags s2
    travelSide := if hasFlag (keptFlags s2) .travelLimit then s2.tm.travelSide else none }

/-- A CLEAR is taken with the epoch it carries (R152); epoch catch-up does the same (R156). -/
def takeClear (e : Byte) (s : State) : State :=
  match s.ps.plan with
  | none => s
  | some p =>
    let s1 := clearSteps p e s
    match lowestFlag s1.tm.flags with
    | some c => localHalt c none s1
    | none => if isHalted s then reportCleared s1 else s1

/-- A CLEAR frame is taken from a member, and from no other sender (R152). -/
def takeClearFrame (sender : NodeNum) (e : Byte) (s : State) : State :=
  match s.ps.plan with
  | none => s
  | some p => if isMember p sender then takeClear e s else s

/-! ### REPORT frames (R26 to R30, R150, R156) -/

/-- The report acts as a received HALT (R150). -/
def reportHalts (s : State) (r : Reported) : Bool :=
  !isHalted s && r.halt.isSome && s.tm.epoch.isSome && r.epoch == s.tm.epoch

/-- The report ends a remote halt by catch-up (R156). -/
def reportClears (s : State) (r : Reported) : Bool :=
  (match s.tm.record with
    | some h => h.remote
    | none => false)
    && r.epoch.isSome && r.halt.isNone && r.epoch != s.tm.epoch

/-- Epoch learning applies to a report that left its entry LIVE (R29). -/
def reportTeaches (s : State) (r : Reported) : Bool :=
  s.tm.epoch.isNone && r.epoch.isSome
    && !(match s.tm.record with
          | some h => h.remote
          | none => false)

/-- The Trip Monitor's tests on a report that left its entry LIVE (R29, R30, R150, R156). -/
def judgeReport (sender : NodeNum) (r : Reported) (s : State) : State :=
  let s1 := if reportTeaches s r then s.withTm { s.tm with epoch := r.epoch } else s
  if reportHalts s1 r then
    match r.halt with
    | some c => remoteHalt c sender r.lift none s1
    | none => s1
  else if reportClears s1 r then
    match r.epoch with
    | some e => takeClear e s1
    | none => s1
  else s1

/-- A REPORT reaches the Peer Table (R26 to R30). -/
def takeReport (sender : NodeNum) (epochByte : Byte) (r : ReportBody) (s : State) : State :=
  let old := s.pt.entry sender
  let new := recordReport s.ps.fingerprint epochByte r old
  let s1 := latchWhen (old.state == .unlisted) .stranger (s.withPt (s.pt.setEntry sender new))
  if new.state = .live then judgeReport sender (reportedOf epochByte r) s1 else s1

/-! ### Handing frames on, and a frame of the node's own (R4 to R7, R14 to R17) -/

/-- A good frame reaches the block that owns its kind (R5). -/
def handOn (f : Frame) (s : State) : State :=
  match f.body with
  | .report r => takeReport f.sender f.epochByte r s
  | .motion m => takeMotion f.sender m s
  | .halt h => takeHalt f.sender h s
  | .clear => takeClearFrame f.sender f.epochByte s

/-- A good frame that is not the node's own (R4, R5, R7): `last` is set; while a plan is in force the frame
is handed on, or is a duplicate when it carries the node's own number. -/
def goodFrame (f : Frame) (s : State) : State :=
  let s1 := lineIdle f.sender s
  match s.ps.plan with
  | none => s1
  | some p => if f.sender = p.node then trip .duplicateNode none none s1 else handOn f s1

/-- The idle event that ends a judged run: a discarded run sets `last` to 63 (R4). -/
def judgedRun (verdict : Option Frame) (s : State) : State :=
  match verdict with
  | none => lineIdle 63 s
  | some f => goodFrame f s

/-- The frame in the transmitter has collided (R15 to R17): one more attempt; below sixteen it goes back
to its lane, at sixteen it is dropped and MEDIUM_FAULT reported. -/
def collided (q : Queued) (s : State) : State :=
  if q.attempts + 1 < 16 then s.withLau (lauReturn s.lau { q with attempts := q.attempts + 1 })
  else trip .mediumFault none none (s.withLau { s.lau with transmitter := none })

/-- A transmission is complete (R6): the frame leaves the transmitter, `last` is set, and the node's own
MOTION or CLEAR acts on the node. -/
def transmissionDone (q : Queued) (s : State) : State :=
  let s1 := lineIdle q.frame.sender (s.withLau { s.lau with transmitter := none })
  match q.frame.body with
  | .report _ => s1
  | .motion m => takeMotion q.frame.sender m s1
  | .halt _ => s1
  | .clear => takeClearFrame q.frame.sender q.frame.epochByte s1

/-- The idle event that ends a run (R4, R6, R14): a frame in the transmitter is complete when the run is
the frame, and has collided when it is not. -/
def endOfRun (verdict : Option Frame) (isRun : Frame → Bool) (s : State) : State :=
  match s.lau.transmitter with
  | some q => if isRun q.frame then transmissionDone q s else judgedRun verdict (collided q s)
  | none => judgedRun verdict s

/-- The idle event of a run that holds a frame sent by another node. Before the first idle event no run is
taken as a frame (R1; DEDUCED, log entry 21). A frame that R185 does not admit is a discarded run. -/
def frameEnds (f : Frame) (s : State) : State :=
  if !s.lau.synced then lineIdle s.lau.last s
  else endOfRun (if f.wf then some f else none) (fun g => g == f) s

/-! ### Start-up (R64, R65) -/

/-- What follows when both start-up events are noted: the record is done, and the verdict decides (R64,
R65). -/
def decideStartup (s : State) : State :=
  if s.phc.startup.done || !s.phc.startup.validRead then s
  else
    match s.phc.startup.verdict with
    | none => s
    | some loaded =>
      let s1 := s.withPhc { s.phc with startup := { s.phc.startup with done := true } }
      if loaded then trip .noReference none none s1
      else if s1.phc.phase = .starting then applyPending (changePhase .idle s1)
      else s1

/-- A valid position read is noted (R64). -/
def noteValidRead (s : State) : State :=
  if s.phc.startup.done then s
  else decideStartup
    (s.withPhc { s.phc with startup := { s.phc.startup with validRead := true } })

/-- The third load sample after adoption is noted with its verdict (R47, R64). -/
def noteVerdict (loaded : Bool) (s : State) : State :=
  if s.phc.startup.done then s
  else decideStartup
    (s.withPhc { s.phc with startup := { s.phc.startup with verdict := some loaded } })

end Sys2Proof.Machine
end

