-- ==== Sys2Proof/Machine/Plans.lean ====
section
/-! DEFINITION. The Plan Store: checksums, the checks, the clamps, the image that adoption leaves, adoption
and refusal with their hand-offs (R158 to R170, R186). -/

namespace Sys2Proof.Machine

open Sys2Proof

/-! ### Sections and checksums (R160, R161) -/

/-- The first offset of a section and the number of bytes its checksum covers (11_formats.md). -/
def sectionSpan : PlanSection → Nat × Nat
  | .identity => (0x00, 12)
  | .set => (0x10, 23)
  | .pace => (0x30, 45)
  | .column => (0x60, 12)
  | .neighbours => (0x70, 19)

/-- The sections in image order. -/
def allSections : List PlanSection := [.identity, .set, .pace, .column, .neighbours]

/-- The checksum of a list of bytes: rotate left by one, then add, from 0 (R161). -/
def checksum (bytes : List Byte) : Byte := bytes.foldl (fun r b => r.rotateLeft 1 + b) 0

/-- The bytes of a section that its checksum covers. -/
def sectionBytes (m : Memory) (sec : PlanSection) : List Byte :=
  m.bytes (sectionSpan sec).1 (sectionSpan sec).2

/-- The checksum byte of a section, which follows the bytes it covers. -/
def checksumByte (m : Memory) (sec : PlanSection) : Byte :=
  m.read ((sectionSpan sec).1 + (sectionSpan sec).2)

/-- A section passes (R161). -/
def sectionPasses (m : Memory) (sec : PlanSection) : Bool :=
  checksum (sectionBytes m sec) == checksumByte m sec

/-- The membership of the image: byte 0x10 is the most significant (R186). -/
def imageMembership (m : Memory) : BitVec 64 :=
  BitVec.ofNat 64 ((m.bytes 0x10 8).foldl (fun n b => n * 256 + b.toNat) 0)

/-- The first check of R165 that the image fails, with its section. -/
def failingCheck (m : Memory) : Option (PlanSection × PlanCheck) :=
  if m.read 0x00 ≠ 0xA7 ∨ m.read 0x01 ≠ 0x3C then some (.identity, .tag)
  else if m.read 0x02 ≠ 0x02 then some (.identity, .version)
  else
    match allSections.find? (fun sec => !sectionPasses m sec) with
    | some sec => some (sec, .checksum)
    | none =>
      if 63 < (m.read 0x03).toNat then some (.identity, .nodeNumber)
      else if !(imageMembership m).getLsbD (m.read 0x03).toNat then some (.set, .notMember)
      else none

/-! ### Clamps (R166) -/

/-- A number clamped to a range. -/
def clampNat (lo hi x : Nat) : Nat := max lo (min hi x)

/-- The k-th 16-bit number of a row of the image. -/
def rowNat (m : Memory) (start k : Nat) : Nat := (m.read16 (start + 2 * k)).toNat

/-- The clamped speeds, V[k + 1]: to 0 to 6,000, then none below the one before it. -/
def clampedSpeed (m : Memory) : Nat → Nat
  | 0 => min 6000 (rowNat m 0x30 0)
  | k + 1 => max (min 6000 (rowNat m 0x30 (k + 1))) (clampedSpeed m k)

/-- The clamped thresholds, Thr[k + 1]: the first 65,535, then none above the one before it. -/
def clampedThreshold (m : Memory) : Nat → Nat
  | 0 => 65535
  | k + 1 => min (rowNat m 0x40 (k + 1)) (clampedThreshold m k)

/-- The neighbour count of the image, at most 6. -/
def neighbourCount (m : Memory) : Nat := min 6 (m.read 0x70).toNat

/-- The first `count` neighbour entries as written: node number and tolerance. -/
def writtenNeighbours (m : Memory) : List (Byte × Nat) :=
  (List.range (neighbourCount m)).map
    (fun i => (m.read (0x71 + 3 * i), (m.read16 (0x72 + 3 * i)).toNat))

/-- The entries that are not dropped: not the own number, inside the membership, not a repeat. -/
def keepNeighbours (own : NodeNum) (membership : BitVec 64) :
    List NodeNum → List (Byte × Nat) → List Neighbour
  | _, [] => []
  | seen, (b, t) :: rest =>
    match nodeOfByte b with
    | none => keepNeighbours own membership seen rest
    | some n =>
      if n = own ∨ membership.getLsbD n.val = false ∨ n ∈ seen then
        keepNeighbours own membership seen rest
      else { node := n, tolerance := t } :: keepNeighbours own membership (n :: seen) rest

/-- The node number of an image that has passed check 4 of R165. -/
def imageNode (m : Memory) : NodeNum := Fin.ofNat 64 (m.read 0x03).toNat

/-- The low end of the travel window after its clamp. -/
def clampedLo (m : Memory) : Nat := min 65534 (m.read16 0x62).toNat

/-- The high end of the travel window after its clamp. -/
def clampedHi (m : Memory) : Nat :=
  if (m.read16 0x64).toNat ≤ clampedLo m then clampedLo m + 1 else (m.read16 0x64).toNat

/-- The plan that an image holds after the clamps of R166, each field at the offset of R186. -/
def planOf (m : Memory) : Plan :=
  { node := imageNode m
    setName := m.bytes 0x04 8
    membership := imageMembership m
    periodCode := min 3 (m.read 0x18).toNat
    kSil := clampNat 2 8 (m.read 0x19).toNat
    kKeep := clampNat 2 16 (m.read 0x1A).toNat
    contactTimeout := clampNat 5 120 (m.read 0x1B).toNat
    stallLimit := clampNat 5 100 (m.read 0x1C).toNat
    drift := (m.read16 0x1D).toNat
    presets := Vector.ofFn (fun i : Fin 4 => m.read16 (0x1F + 2 * i.val))
    speeds := Vector.ofFn (fun k : Fin 8 => clampedSpeed m k.val)
    thresholds := Vector.ofFn (fun k : Fin 8 => clampedThreshold m k.val)
    sMax := clampNat 1 8 (m.read 0x50).toNat
    window := clampNat 4 400 (m.read16 0x51).toNat
    creep := min (m.read16 0x53).toNat (clampedSpeed m 0)
    approach := min (max 1 (m.read16 0x55).toNat) (clampedSpeed m 7)
    retract := min (max 1 (m.read16 0x57).toNat) (clampedSpeed m 7)
    slowZone := (m.read16 0x59).toNat
    unloadZone := m.read16 0x5B
    datum := m.read16 0x60
    lo := clampedLo m
    hi := clampedHi m
    parked := max (clampedLo m) (m.read16 0x66).toNat
    padRating := (m.read16 0x68).toNat
    contactLevel := max 1 (m.read16 0x6A).toNat
    neighbours := keepNeighbours (imageNode m) (imageMembership m) [] (writtenNeighbours m) }

/-! ### The image that adoption leaves (R167) -/

/-- The two bytes of a number below 65,536. -/
def natBytes (n : Nat) : List Byte := wordBytes (BitVec.ofNat 16 n)

/-- A neighbour entry: number and tolerance. -/
def neighbourBytes (n : Neighbour) : List Byte := byteOf n.node.val :: natBytes n.tolerance

/-- The covered bytes of a section after the clamps: clamped fields written back in their places, every
other field as written (R166, R167). -/
def clampedSection (m : Memory) (p : Plan) : PlanSection → List Byte
  | .identity => m.bytes 0x00 12
  | .set =>
    m.bytes 0x10 8 ++ [byteOf p.periodCode, byteOf p.kSil, byteOf p.kKeep,
      byteOf p.contactTimeout, byteOf p.stallLimit] ++ m.bytes 0x1D 10
  | .pace =>
    p.speeds.toList.flatMap natBytes ++ p.thresholds.toList.flatMap natBytes
      ++ [byteOf p.sMax] ++ natBytes p.window ++ natBytes p.creep ++ natBytes p.approach
      ++ natBytes p.retract ++ m.bytes 0x59 4
  | .column =>
    m.bytes 0x60 2 ++ natBytes p.lo ++ natBytes p.hi ++ natBytes p.parked ++ m.bytes 0x68 2
      ++ natBytes p.contactLevel
  | .neighbours =>
    byteOf p.neighbours.length :: p.neighbours.flatMap neighbourBytes
      ++ (List.replicate (neighbourCount m - p.neighbours.length) [0xFF, 0x00, 0x00]).flatten
      ++ m.bytes (0x71 + 3 * neighbourCount m) (3 * (6 - neighbourCount m))

/-- A section after the clamps with its recomputed checksum byte (R167). -/
def sealedSection (m : Memory) (p : Plan) (sec : PlanSection) : List Byte :=
  clampedSection m p sec ++ [checksum (clampedSection m p sec)]

/-- The 256 bytes that adoption leaves; the bytes of no section stay as written (R186). -/
def adoptedBytes (m : Memory) : List Byte :=
  let p := planOf m
  sealedSection m p .identity ++ m.bytes 0x0D 3 ++ sealedSection m p .set ++ m.bytes 0x28 8
    ++ sealedSection m p .pace ++ m.bytes 0x5E 2 ++ sealedSection m p .column ++ m.bytes 0x6D 3
    ++ sealedSection m p .neighbours ++ m.bytes 0x84 124

/-- The image that adoption leaves (R167). -/
def adoptedImage (m : Memory) : Memory := Memory.ofBytesFrom 0 (adoptedBytes m)

/-- The fingerprint of an image whose checksums stand: SET then PACE, and 0x0001 for 0 (R162). -/
def imageFingerprint (m : Memory) : Word :=
  let w := wordOf (checksumByte m .set) (checksumByte m .pace)
  if w = 0 then 1 else w

/-! ### Adoption and refusal (R167, R168) -/

/-- The control period in microseconds (R186). -/
def periodTime (p : Plan) : Nat := 10000 * 2 ^ p.periodCode

/-- The first expiry after an adoption: ((own mod 16) + 1) × P/16 (R98). -/
def firstExpiry (p : Plan) : Nat := (p.node.val % 16 + 1) * (periodTime p / 16)

/-- The load-silence time in microseconds (R50). -/
def loadSilenceTime : Nat := 100000

/-- The Pace Unit at adoption (R98, R118, R135). -/
def paceAdopt (p : Plan) (pu : PaceUnit) : PaceUnit :=
  { pu with timer := some (firstExpiry p), step := 0, windowSum := 0, windowCount := 0,
            lastWindow := none, sync := .acquire, lockRun := 0 }

/-- The Column Interface at adoption (R60). -/
def columnAdopt (ci : ColumnInterface) : ColumnInterface :=
  { ci with loadTimer := some loadSilenceTime, contactRun := 0, unloadRun := 0, lossRun := 0,
            overloadRun := 0, startSamples := 0 }

/-- The Trip Monitor at adoption (R157). -/
def tripAdopt (tm : TripMonitor) : TripMonitor :=
  { tm with record := none, flags := 0, travelSide := none, stall := 0, prevHeight := none,
            restHeight := none }

/-- The hand-offs of an adoption to every block but the Phase Controller (R20, R24, R60, R97, R98, R135,
R157). -/
def handAdoption (p : Plan) (s : State) : State :=
  let s1 := ((((s.withPt (s.pt.adopt p)).withCi (columnAdopt s.ci)).withSu
    { s.su with session := none, press := .none }).withPu (paceAdopt p s.pu)).withTm (tripAdopt s.tm)
  latchWhen (s.pu.step != 0) .step (latchWhen (s.pu.sync != .acquire) .lock s1)

/-- The plan is put into force (R167): image, fingerprint, plan, adopted flag, outcome, PLAN; then the
hand-offs, with the entry into STARTING last (R63). -/
def adoptPlan (s : State) : State :=
  let m := adoptedImage s.ps.image
  let p := planOf s.ps.image
  let s1 := s.withPs { s.ps with
    image := m, plan := some p, adopted := true, fingerprint := some (imageFingerprint m),
    outcome := .adopted }
  let s2 := handAdoption p (latchEvent .plan s1)
  changePhase .starting
    (s2.withPhc { s2.phc with startup := .cleared, contactTimer := none })

/-- The Column Interface at the entry into UNPLANNED (R42, R60). -/
def columnUnplanned (ci : ColumnInterface) : ColumnInterface :=
  { sendWord 0 (setDrive false ci) with
    loadTimer := none
    loadSilent := false
    read := match ci.read with
      | .idle => .idle
      | .inFlight => .inFlightNotHanded
      | .inFlightNotHanded => .inFlightNotHanded }

/-- The entry into UNPLANNED from another phase (R18, R25, R60, R63, R97, R118, R135, R157). -/
def enterUnplanned (s : State) : State :=
  let s1 := s.withLau
    { s.lau with urgent := [], normal := [], transmitter := none, deferral := none }
  let s2 := (s1.withPt .reset).withCi (columnUnplanned s.ci)
  let s3 := s2.withSu { s.su with session := none, press := .none }
  let s4 := s3.withPu
    { s.pu with timer := none, demand := 0, clamped := false, sync := .acquire, lockRun := 0 }
  let s5 := s4.withTm (tripAdopt s.tm)
  let s6 := s5.withPhc { s.phc with phase := .unplanned, contactTimer := none }
  latchEvent .phase (latchWhen (s.pu.sync != .acquire) .lock s6)

/-- The plan is refused (R168): the outcome, the cleared flag, no fingerprint, no plan in force, PLAN; a
node in another phase enters UNPLANNED. -/
def refusePlan (sec : PlanSection) (check : PlanCheck) (s : State) : State :=
  let s1 := latchEvent .plan (s.withPs { s.ps with
    outcome := .badPlan sec check, adopted := false, fingerprint := none, plan := none })
  if s.phc.phase = .unplanned then s1 else enterUnplanned s1

/-- The adoption operation (R165 to R168): the first failing check refuses, otherwise the plan is put
into force. -/
def adoption (s : State) : State :=
  match failingCheck s.ps.image with
  | some (sec, check) => refusePlan sec check s
  | none => adoptPlan s

/-- A plan command is permitted (R169). -/
def planPermitted (s : State) : Bool :=
  s.phc.phase == .unplanned || (s.phc.phase == .idle && s.su.session.isNone)

/-- A service write into the image (R169): permitted, the byte is set, the adopted flag cleared and the
fingerprint made absent; otherwise WRITE_REFUSED latches. -/
def writePlan (a : Nat) (v : Byte) (s : State) : State :=
  if planPermitted s then
    s.withPs { s.ps with image := s.ps.image.write a v, adopted := false, fingerprint := none }
  else latchEvent .writeRefused s

end Sys2Proof.Machine
end

