-- ==== Sys2Proof/Machine/Pace.lean ====
section
/-! DEFINITION. The pace computation with the lock monitor and the step selector, the control sample, its
checks, the REPORT, and the start condition (R95, R100 to R136, R143 to R146). -/

namespace Sys2Proof.Machine

open Sys2Proof

/-! ### Lock monitor (R128 to R131) -/

/-- The lock monitor's state and run count after a computation with lead `e` and window `w`. -/
def lockStep (w e : Nat) : SyncState → Nat → SyncState × Nat
  | .acquire, run =>
    if e < w then (if 4 ≤ run + 1 then (.track, 0) else (.acquire, run + 1)) else (.acquire, 0)
  | .track, run =>
    if 2 * w ≤ e then (.acquire, 0)
    else if e < w / 2 then (if 16 ≤ run + 1 then (.lock, 0) else (.track, run + 1))
    else (.track, 0)
  | .lock, run =>
    if 2 * w ≤ e then (.acquire, 0)
    else if w ≤ e then (.track, 0)
    else (.lock, run)

/-! ### Step selector (R121 to R126) -/

/-- The step below, never below step 1. -/
def stepDown (k : Step) (n : Nat) : Step := ⟨k.val - n, by omega⟩

/-- The step above, never above step 8. -/
def stepUp (k : Step) : Step := if h : k.val + 1 < 8 then ⟨k.val + 1, h⟩ else k

/-- The speed of a step (R119). -/
def speedOf (p : Plan) (k : Step) : Nat := p.speeds[k]

/-- The spread threshold of a step (R119). -/
def thresholdOf (p : Plan) (k : Step) : Nat := p.thresholds[k]

/-- The first proposal: the highest step whose threshold the mean meets (R123). -/
def proposal (p : Plan) (mean : Nat) : Step :=
  ((List.finRange 8).reverse.find? (fun k => mean ≤ thresholdOf p k)).getD 0

/-- The ceiling as a step: S_max less one (R124). -/
def ceilingStep (p : Plan) : Step := ⟨min 7 (p.sMax - 1), by omega⟩

/-- The load deduction in steps (R124). -/
def deductionOf (rating load : Nat) : Nat :=
  if rating * 9 ≤ load * 10 then 2 else if rating * 8 ≤ load * 10 then 1 else 0

/-- What a window end decides for the own step (R123 to R126): `locked` says that the node and every peer
in L report LOCK. -/
def windowEnd (p : Plan) (mean load : Nat) (locked : Bool) (own : Step) : Step × WindowRecord :=
  let ceiled := min (proposal p mean) (ceilingStep p)
  let deduction := deductionOf p.padRating load
  let final := stepDown ceiled deduction
  let result : Step × WindowOutcome :=
    if final < own then (final, .fell)
    else if own < final then (if locked then (stepUp own, .rose) else (own, .held))
    else (own, .unchanged)
  (result.1, { ceiled := ceiled, deduction := deduction, final := final, outcome := result.2 })

/-- The step selector at a computation in LIFT or LOWER (R121 to R126): the immediate fallback, else the
spread into the window, which ends at its 32nd sample. -/
def selectStep (p : Plan) (spread load : Nat) (locked : Bool) (pu : PaceUnit) : PaceUnit :=
  if 2 * thresholdOf p pu.step < spread then
    { pu with step := stepDown pu.step 1, windowSum := 0, windowCount := 0 }
  else
    let sum := min 2097151 (pu.windowSum + spread)
    if 32 ≤ pu.windowCount + 1 then
      let r := windowEnd p (sum / 32) load locked pu.step
      { pu with step := r.1, lastWindow := some r.2, windowSum := 0, windowCount := 0 }
    else { pu with windowSum := sum, windowCount := pu.windowCount + 1 }

/-! ### Stages 1 to 4 (R101 to R104) -/

/-- Stage 1: the own lift (R101). -/
def ownLift (ci : ColumnInterface) : Word :=
  match ci.contactHeight, ci.height with
  | some hc, some h => clampLift (h.toNat - hc.toNat)
  | _, _ => 0

/-- What stages 1 to 4 find: the own lift, the peers of L with their reports, lead and spread. -/
structure LineView where
  lift : Word
  peers : List (NodeNum × Reported)
  lead : Nat
  spread : Nat
  deriving DecidableEq, Repr

/-- Stage 2: the peers of the lifting set (R102). -/
def liftingPeers (p : Plan) (s : State) : List (NodeNum × Reported) :=
  match s.su.session with
  | some ss =>
    if isPacing s.phc.phase then matchingPeers p.node s.pt ss.token s.phc.phase else []
  | none => []

/-- The least of a lift and the lifts of peers. -/
def leastOf (l : Int) (ls : List Int) : Int := ls.foldl min l

/-- The greatest of a lift and the lifts of peers. -/
def greatestOf (l : Int) (ls : List Int) : Int := ls.foldl max l

/-- Stages 1 to 4 (R101 to R104). -/
def lineView (p : Plan) (s : State) : LineView :=
  let lift := ownLift s.ci
  let peers := liftingPeers p s
  let l := lift.toInt
  let ls := peers.map (fun q => q.2.lift.toInt)
  { lift := lift
    peers := peers
    lead :=
      if s.phc.phase = .lift then (l - leastOf l ls).toNat
      else if s.phc.phase = .lower then (greatestOf l ls - l).toNat
      else 0
    spread := (greatestOf l ls - leastOf l ls).toNat }

/-! ### Stages 5 and 6 (R105, R106) -/

/-- Every peer in L reports LOCK (R125). -/
def peersLocked (v : LineView) : Bool := v.peers.all (fun q => q.2.sync == .lock)

/-- Stage 5 in the Pace Unit: the lock monitor, then the step selector (R105). -/
def paceJudged (p : Plan) (v : LineView) (load : Nat) (pu : PaceUnit) : PaceUnit :=
  let k := lockStep p.window v.lead pu.sync pu.lockRun
  selectStep p v.spread load (k.1 == .lock && peersLocked v)
    { pu with sync := k.1, lockRun := k.2 }

/-- The latest load as a number, 0 while it is absent (R116, R124). -/
def loadNumber (ci : ColumnInterface) : Nat :=
  match ci.load with
  | some w => w.toNat
  | none => 0

/-- Stage 5 (R105) with its events (R127, R132); passed over outside LIFT and LOWER. -/
def judgePace (p : Plan) (v : LineView) (s : State) : State :=
  if isPacing s.phc.phase then
    let pu := paceJudged p v (loadNumber s.ci) s.pu
    latchWhen (pu.step != s.pu.step) .step
      (latchWhen (pu.sync != s.pu.sync) .lock (s.withPu pu))
  else s

/-- Stage 6: the set step (R106). -/
def setStep (v : LineView) (own : Step) : Step := (v.peers.map (fun q => q.2.step)).foldl min own

/-! ### Stages 7 to 11 (R107 to R112) -/

/-- The target of the session's preset; preset 0 has none (R107). -/
def target (p : Plan) (s : State) : Option Int :=
  match s.su.session with
  | some ss =>
    if h : 1 ≤ ss.preset.val then some (p.presets[ss.preset.val - 1]'(by omega)).toInt else none
  | none => none

/-- Stage 7: the base speed with the slow zone (R107). -/
def baseSpeed (p : Plan) (s : State) (lift : Word) (k : Step) : Nat :=
  let v := speedOf p k
  match target p s with
  | none => v
  | some t =>
    if s.phc.phase = .lift then
      (if t - lift.toInt ≤ p.slowZone then min v (speedOf p 0) else v)
    else (if lift.toInt - t ≤ p.slowZone then min v (speedOf p 0) else v)

/-- Stage 8: the lift has reached the target (R108). -/
def hasArrived (p : Plan) (s : State) (lift : Word) : Bool :=
  match target p s with
  | none => false
  | some t =>
    match s.phc.phase with
    | .lift => t ≤ lift.toInt
    | .lower => lift.toInt ≤ t
    | .unplanned | .starting | .idle | .approach | .contact | .hold | .retract | .halted => false

/-- Arrival moves the phase to HOLD with ARRIVED (R70, R108). -/
def arrive (s : State) : State := changePhase .hold (setLastStop .arrived s)

/-- Stage 9: the magnitude from the lead (R109). -/
def throttle (p : Plan) (v e : Nat) : Nat :=
  if p.window ≤ e then 0 else max (v * (p.window - e) / p.window) p.creep

/-- The height is at or above HI - 1, where rising is clamped (R110, R112). -/
def atTop (p : Plan) (ci : ColumnInterface) : Bool :=
  match ci.height with
  | some h => p.hi - 1 ≤ h.toNat
  | none => false

/-- The height is at or below LO, where lowering is clamped (R110). -/
def atBottom (p : Plan) (ci : ColumnInterface) : Bool :=
  match ci.height with
  | some h => h.toNat ≤ p.lo
  | none => false

/-- Stages 9 to 11 and the demands of the other phases (R109 to R112): the demand and the CLAMPED flag,
by the phase as it stands at stage 11 (R113). -/
def demandOf (p : Plan) (s : State) (v e : Nat) : Int × Bool :=
  match s.phc.phase with
  | .lift => if atTop p s.ci then (0, true) else ((throttle p v e : Int), false)
  | .lower => if atBottom p s.ci then (0, true) else (-(throttle p v e : Int), false)
  | .approach => if atTop p s.ci then (0, true) else ((p.approach : Int), false)
  | .retract => (-(p.retract : Int), false)
  | .unplanned | .starting | .idle | .contact | .hold | .halted => (0, false)

/-- The demand is held and handed to the drive (R111, R51). -/
def giveDemand (d : Int × Bool) (s : State) : State :=
  (s.withPu { s.pu with demand := d.1, clamped := d.2 }).withCi (sendWord (BitVec.ofInt 16 d.1) s.ci)

/-! ### Stage 12 (R115 to R117) -/

/-- The control sample of the computation (R115). -/
def sampleOf (v : LineView) (s : State) : ControlSample :=
  { phase := s.phc.phase, height := s.ci.height, lift := v.lift, lead := v.lead, spread := v.spread,
    demand := s.pu.demand }

/-- The body of the REPORT that the node composes (R116). -/
def reportBody (lift : Word) (s : State) : ReportBody :=
  { phase := s.phc.phase
    sync := s.pu.sync
    step := s.pu.step
    halt := s.tm.record.map (·.cause)
    token := s.su.session.map (·.token)
    lift := lift
    height := s.ci.height.getD 0
    load := s.ci.load.getD 0
    fingerprint := s.ps.fingerprint.getD 0
    refValid := s.ci.contactHeight.isSome
    clamped := s.pu.clamped
    epochKnown := s.tm.epoch.isSome }

/-- A REPORT is composed: it joins the normal lane, and the SELF entry takes its content (R36, R116,
R117). -/
def composeReport (p : Plan) (lift : Word) (s : State) : State :=
  let r := reportBody lift s
  let f : Frame := { sender := p.node, epochByte := ownEpochByte s, body := .report r }
  let e := s.pt.entry p.node
  (compose f s).withPt
    (s.pt.setEntry p.node { e with report := some (reportedOf (ownEpochByte s) r) })

/-- Stage 12: the control sample is published and the REPORT composed (R115, R116). -/
def publish (p : Plan) (v : LineView) (s : State) : State :=
  composeReport p v.lift
    (s.withPu { s.pu with sample := some (sampleOf v s), lifting := p.node :: v.peers.map (·.1) })

/-! ### The Trip Monitor at a control sample (R143 to R146) -/

/-- The difference of two numbers. -/
def distance (a b : Int) : Nat := (a - b).natAbs

/-- DIFFERENTIAL: the first live loaded neighbour in the period list whose lift differs by more than its
tolerance (R144). -/
def differentialPeer (p : Plan) (c : ControlSample) (t : PeerTable) : Option NodeNum :=
  if isLoaded c.phase then
    ((loadedNeighbours p t).find? (fun n =>
      t.periodList.contains n.1.node
        && n.1.tolerance < distance c.lift.toInt n.2.toInt)).map (·.1.node)
  else none

/-- The stall counter after a sample (R145). -/
def stallAfter (c : ControlSample) (tm : TripMonitor) : Nat :=
  if c.demand ≠ 0 ∧ c.height.isSome ∧ c.height = tm.prevHeight then min 255 (tm.stall + 1) else 0

/-- DRIFT holds at a sample (R146). -/
def driftHolds (p : Plan) (c : ControlSample) (tm : TripMonitor) : Bool :=
  match c.height, tm.restHeight with
  | some h, some r => isResting c.phase && p.drift < distance h.toNat r.toNat
  | _, _ => false

/-- The checks at a control sample, in the order DIFFERENTIAL, STALL, DRIFT (R143): each judged on the
sample and on the state as it was published, then taken one after the other. -/
def checkSample (p : Plan) (c : ControlSample) (s : State) : State :=
  let stall := stallAfter c s.tm
  let drift := driftHolds p c s.tm
  let peer := differentialPeer p c s.pt
  let s1 := s.withTm { s.tm with stall := stall, prevHeight := c.height }
  let s2 := if peer.isSome then trip .differential none peer s1 else s1
  let s3 := if p.stallLimit ≤ stall then trip .stall none none s2 else s2
  if drift then trip .drift none none s3 else s3

/-! ### The start condition (R69, R95) -/

/-- The phases that a member must report (R95). -/
def startPhases : Direction → List Phase
  | .up => [.contact, .lift]
  | .down => [.hold, .lower, .idle, .retract]

/-- The phase is one where the start condition is evaluated for a direction (R95). -/
def awaitsStart (ph : Phase) : Direction → Bool
  | .up => ph == .contact
  | .down => ph == .hold || ph == .idle

/-- The height stands above the plan's parked height (R69). -/
def aboveParked (p : Plan) (ci : ColumnInterface) : Bool :=
  match ci.height with
  | some h => p.parked < h.toNat
  | none => false

/-- The PHC is told that the session has started (R69). -/
def tellStarted (p : Plan) (dir : Direction) (s : State) : State :=
  match s.phc.phase, dir with
  | .contact, .up => changePhase .lift s
  | .hold, .down => changePhase .lower s
  | .idle, .down =>
    if aboveParked p s.ci then changePhase .retract s else setLastStop .arrived s
  | _, _ => s

/-- The start condition is evaluated at a control computation (R95): the test of R39, which a session of a node
marked unadopted never passes (R169). That node's peers become MISMATCHED at their next REPORT (R26); until then,
and in a set of one member, the adopted flag itself holds the condition false (DEDUCED, log entry 34). -/
def startCondition (p : Plan) (s : State) : State :=
  match s.su.session with
  | none => s
  | some ss =>
    if ss.state = .pending ∧ awaitsStart s.phc.phase ss.dir = true
        ∧ s.ps.adopted = true
        ∧ membershipAgreement p s.pt ss.token (startPhases ss.dir) = true then
      tellStarted p ss.dir
        (s.withSu { s.su with session := some { ss with state := .running } })
    else s

/-! ### The computation as one operation (R72, R100) -/

/-- In RETRACT, a height at or below the parked height moves the phase to IDLE with ARRIVED before the
computation (R72). -/
def retractCheck (p : Plan) (s : State) : State :=
  if s.phc.phase = .retract ∧ s.ci.height.isSome = true ∧ aboveParked p s.ci = false then
    changePhase .idle (setLastStop .arrived s)
  else s

/-- Stages 1 to 12 (R100). -/
def paceStages (p : Plan) (s : State) : State :=
  let v := lineView p s
  let s5 := judgePace p v s
  let base := baseSpeed p s5 v.lift (setStep v s5.pu.step)
  let s8 := if hasArrived p s5 v.lift then arrive s5 else s5
  publish p v (giveDemand (demandOf p s8 base v.lead) s8)

/-- A control computation: R72's comparison, the twelve stages, then the Trip Monitor's checks and the
start condition at the sample (R100, R115, DEDUCED, log entry 12). -/
def computation (p : Plan) (s : State) : State :=
  let s1 := paceStages p (retractCheck p s)
  match s1.pu.sample with
  | some c => startCondition p (checkSample p c s1)
  | none => s1

end Sys2Proof.Machine
end

