-- ==== Sys2Proof/Machine/Views.lean ====
section
/-! DEFINITION. What the service line shows: the peer view, the node status block, SUMMARY, and the bytes of
the whole service address space (R41, R176, R179, R184, R187; 11_formats.md). -/

namespace Sys2Proof.Machine

open Sys2Proof

/-! ### Peer view (R41) -/

/-- The code of an entry state. -/
def entryCode : EntryState → Nat
  | .unlisted => 0 | .stranger => 1 | .expected => 2 | .live => 3 | .silent => 4
  | .mismatched => 5 | .self => 6

/-- Bytes 1 to 14 of a peer view entry, and the flags of byte 15, when the reported fields are present. -/
def reportedBytes (r : Reported) : List Byte :=
  [byteOf (phaseCode r.phase), stepSyncByte r.step r.sync, haltByte r.halt] ++ tokenBytes r.token
    ++ wordBytes r.lift ++ wordBytes r.height ++ wordBytes r.load ++ [r.epoch.getD 0xFF]
    ++ wordBytes r.fingerprint

/-- The sixteen bytes of a peer view entry; absent fields read 0x00 (R187, DEDUCED, log entry 18). -/
def entryBytes (e : PeerEntry) : List Byte :=
  byteOf (entryCode e.state + bitAt e.report.isSome 3 + bitAt e.stale 4 + bitAt e.fresh 5)
    :: (match e.report with
        | some r =>
          reportedBytes r
            ++ [byteOf (bitAt r.refValid 0 + bitAt r.clamped 1 + bitAt r.epoch.isSome 2
                + 16 * min 15 e.silence)]
        | none => List.replicate 14 0x00 ++ [byteOf (16 * min 15 e.silence)])

/-! ### Node status block (R187) -/

/-- The codes of the last stop cause. -/
def stopCode : StopCause → Nat
  | .none => 0 | .released => 1 | .keepLost => 2 | .conflict => 3 | .stopped => 4 | .arrived => 5

/-- The codes of the session record's state. -/
def sessionCode : Option Session → Nat
  | none => 0
  | some ss =>
    match ss.state with
    | .pending => 1
    | .running => 2

/-- The codes of the press state. -/
def pressCode : Press → Nat
  | .none => 0 | .waiting _ _ _ => 1 | .held _ _ _ => 2 | .spent _ _ _ => 3

/-- 0x500. -/
def phaseByte (s : State) : Byte :=
  byteOf (phaseCode s.phc.phase + 16 * stopCode s.phc.lastStop + bitAt s.ps.adopted 7)

/-- 0x501; direction and preset read 0 while the record is NONE (DEDUCED, log entry 18). -/
def sessionByte (s : State) : Byte :=
  byteOf (sessionCode s.su.session + 4 * pressCode s.su.press
    + (match s.su.session with
        | some ss => bitAt (ss.dir == .down) 4 + 32 * ss.preset.val
        | none => 0))

/-- 0x502. -/
def keepByte (s : State) : Byte :=
  byteOf ((match s.su.session with
      | some ss => min 15 ss.keep
      | none => 0)
    + bitAt s.phc.startup.validRead 4 + bitAt s.phc.startup.verdict.isSome 5
    + bitAt (s.phc.startup.verdict == some true) 6 + bitAt (s.tm.travelSide == some .upper) 7)

/-- 0x503. -/
def columnByte (s : State) : Byte :=
  byteOf (bitAt s.ci.height.isSome 0 + bitAt s.ci.load.isSome 1 + bitAt s.ci.contactHeight.isSome 2
    + bitAt (s.ci.read != .idle) 3 + bitAt s.ci.driveEnable 4 + bitAt s.ci.driveNotReady 5
    + bitAt s.pu.clamped 6 + bitAt s.ci.loadTimer.isSome 7)

/-- 0x504. -/
def conditionByte (s : State) : Byte :=
  byteOf (bitAt s.ci.loadSilent 0 + bitAt (encoderFaulty s.ci) 1 + bitAt s.ci.inputsSettled 2
    + bitAt s.ci.holdTimer.isSome 3
    + 16 * (match s.ci.held with
        | none => 0
        | some .up => 1
        | some .down => 2)
    + 64 * min 3 s.ci.startSamples)

/-- 0x505: the load runs, each shown saturated at 3. -/
def runsByte (s : State) : Byte :=
  byteOf (min 3 s.ci.contactRun + 4 * min 3 s.ci.unloadRun + 16 * min 3 s.ci.lossRun
    + 64 * min 3 s.ci.overloadRun)

/-- 0x506 and 0x507: the filtered levels, STORE in flight, the last store status plus 1. A line that has
not settled reads 0 (DEDUCED, log entry 18). -/
def levelsWord (s : State) : Word :=
  let l := s.ci.levels
  let b := fun (x : Option Bool) (i : Nat) => bitAt (x == some true) i
  BitVec.ofNat 16 (b l.estop 0 + b l.limitUp 1 + b l.limitDown 2 + b l.nut 3 + b l.driveReady 4
    + b l.driveFault 5 + b l.up 6 + b l.down 7 + b l.stop 8 + b l.resetReq 9 + b l.preset0 10
    + b l.preset1 11 + b l.preset2 12 + bitAt (s.ps.op == .store) 13
    + 16384 * (match s.ps.storeStatus with
        | some st => st.val + 1
        | none => 0))

/-- The lead of the control sample, 0 before the first. -/
def sampleLead (s : State) : Nat :=
  match s.pu.sample with
  | some c => c.lead
  | none => 0

/-- The spread of the control sample, 0 before the first. -/
def sampleSpread (s : State) : Nat :=
  match s.pu.sample with
  | some c => c.spread
  | none => 0

/-- 0x510. -/
def stallByte (s : State) : Byte :=
  byteOf (min 127 s.tm.stall + bitAt (s.tm.travelSide == some .lower) 7)

/-- The codes of the last window outcome. -/
def outcomeCode : WindowOutcome → Nat
  | .fell => 1 | .rose => 2 | .unchanged => 3 | .held => 4

/-- 0x511. -/
def lockByte (s : State) : Byte :=
  byteOf (min 31 s.pu.lockRun
    + 32 * (match s.pu.lastWindow with
        | some w => outcomeCode w.outcome
        | none => 0))

/-- 0x512. -/
def windowByte (s : State) : Byte :=
  byteOf (min 31 s.pu.windowCount
    + 32 * (match s.pu.lastWindow with
        | some w => min 3 w.deduction
        | none => 0)
    + bitAt (s.ps.op == .load) 7)

/-- 0x513. -/
def proposalByte (s : State) : Byte :=
  match s.pu.lastWindow with
  | some w => byteOf (w.final.val + 1 + 16 * (w.ceiled.val + 1))
  | none => 0

/-- The codes of a plan section. -/
def sectionCode : PlanSection → Nat
  | .identity => 0 | .set => 1 | .pace => 2 | .column => 3 | .neighbours => 4

/-- The codes of a plan check. -/
def checkCode : PlanCheck → Nat
  | .tag => 0 | .version => 1 | .checksum => 2 | .nodeNumber => 3 | .notMember => 4

/-- 0x516. -/
def adoptionByte (s : State) : Byte :=
  match s.ps.outcome with
  | .none => 0
  | .adopted => 1
  | .noMemory => 2
  | .badPlan sec check => byteOf (3 + 4 * sectionCode sec + 32 * checkCode check)

/-- 0x517. -/
def haltCauseByte (s : State) : Byte :=
  byteOf ((match s.tm.record with
      | some r => causeCode r.cause + bitAt r.remote 5
      | none => 0)
    + 64 * min 3 s.ci.invalidRun)

/-- 0x518 to 0x51F: the rest of the halt record; all 0 while it is empty (R187). -/
def recordBytes (s : State) : List Byte :=
  match s.tm.record with
  | some r =>
    byteOf r.originator.val :: wordBytes r.originatorLift ++ wordBytes r.ownLift ++ [peerByte r.peer]
      ++ tokenBytes r.token
  | none => List.replicate 8 0x00

/-- The 32 bytes of the node status block, from 0x500 (R187). -/
def statusBytes (s : State) : List Byte :=
  [phaseByte s, sessionByte s, keepByte s, columnByte s, conditionByte s, runsByte s]
    ++ wordBytes (levelsWord s)
    ++ wordBytes (BitVec.ofNat 16 (min 65535 s.pu.windowSum))
    ++ wordBytes (BitVec.ofNat 16 (min 65535 (sampleLead s)))
    ++ wordBytes (BitVec.ofNat 16 (min 65535 (sampleSpread s)))
    ++ wordBytes s.ci.lastWord
    ++ [stallByte s, lockByte s, windowByte s, proposalByte s]
    ++ wordBytes s.tm.flags
    ++ [adoptionByte s, haltCauseByte s] ++ recordBytes s

/-! ### SUMMARY (R179) -/

/-- The eight bytes of the SUMMARY reply. -/
def summaryBytes (s : State) : List Byte :=
  [byteOf (phaseCode s.phc.phase),
   byteOf (sessionCode s.su.session),
   byteOf (match s.tm.record with
     | some r => causeCode r.cause
     | none => 0),
   s.tm.epoch.getD 0xFF,
   stepSyncByte s.pu.step s.pu.sync,
   byteOf (bitAt (nodeSetComplete s) 0 + bitAt s.tm.epoch.isSome 1),
   byteOf (stopCode s.phc.lastStop),
   byteOf (strangerCount s.pt)]

/-! ### The address space (R176) -/

/-- The byte that a read of an address returns; no read changes anything (R187). -/
def readAddress (s : State) (a : Nat) : Byte :=
  if a < 0x100 then s.ps.image.read a
  else if a < 0x500 then
    (entryBytes (s.pt.entry (Fin.ofNat 64 ((a - 0x100) / 16)))).getD ((a - 0x100) % 16) 0
  else if a < 0x520 then (statusBytes s).getD (a - 0x500) 0
  else if a = 0x520 then s.sp.latch.setWidth 8
  else if a = 0x521 then s.sp.mask.setWidth 8
  else if a = 0x522 then byteOf (bitAt (s.sp.latch.getLsbD 8) 0)
  else if a = 0x523 then byteOf (bitAt (s.sp.mask.getLsbD 8) 0)
  else 0x00

/-- A write of a byte at an address (R176): the image by R169, the latch by clearing, the mask by
replacing, every other address refused. -/
def writeAddress (a : Nat) (v : Byte) (s : State) : State :=
  if a < 0x100 then writePlan a v s
  else if a = 0x520 then s.withSp { s.sp with latch := s.sp.latch &&& ~~~(v.setWidth 9) }
  else if a = 0x521 then
    s.withSp { s.sp with mask := (s.sp.mask &&& 0x100#9) ||| v.setWidth 9 }
  else if a = 0x522 then
    s.withSp { s.sp with latch := if v.getLsbD 0 then s.sp.latch &&& 0x0FF#9 else s.sp.latch }
  else if a = 0x523 then
    s.withSp { s.sp with
      mask := (s.sp.mask &&& 0x0FF#9) ||| (if v.getLsbD 0 then 0x100#9 else 0#9) }
  else latchEvent .writeRefused s

end Sys2Proof.Machine
end

