-- ==== Sys2Proof/Machine/Service.lean ====
section
/-! DEFINITION. The Service Port's commands: the parser, what each command does, and the meanings of the
service line's rows, of RESET and of RESTART (R19, R170 to R183). -/

namespace Sys2Proof.Machine

open Sys2Proof

/-! ### Reset (R19, R23, R59, R61, R97, R118, R135, R157, R159, R183) -/

/-- The node reset: every block in its reset state. The queue is the outside's, and the counter of free
values goes on (DESIGN CHOICE, log entry 22). -/
def resetNode (s : State) : State :=
  { State.reset with pending := s.pending, freeCount := s.freeCount }

/-! ### What a command does (R175 to R179) -/

/-- The commands of R175 with their operands. -/
inductive ServiceCommand where
  | peek (a : Word)
  | poke (a : Word) (v : Byte)
  | peekOn
  | pokeOn (v : Byte)
  | summary
  | adopt
  | store
  | restart
  deriving DecidableEq, Repr

/-- The code of a command (11_formats.md). -/
def commandCode : ServiceCommand → Byte
  | .peek _ => 0x11
  | .poke _ _ => 0x12
  | .peekOn => 0x13
  | .pokeOn _ => 0x14
  | .summary => 0x20
  | .adopt => 0x30
  | .store => 0x31
  | .restart => 0x3F

/-- The bytes of a command on the line: code, then operands, most significant first (R175, R184). -/
def commandBytes (c : ServiceCommand) : List Byte :=
  commandCode c ::
    (match c with
      | .peek a => wordBytes a
      | .poke a v => wordBytes a ++ [v]
      | .pokeOn v => [v]
      | .peekOn | .summary | .adopt | .store | .restart => [])

/-- The BUSY byte (R177; 11_formats.md). -/
def busyByte : Byte := 0xB5

/-- A reply put on the line (R175). -/
def withReply (bytes : List Byte) (s : State) : State := s.withSp { s.sp with reply := bytes }

/-- The address pointer moved (R175). -/
def withPointer (a : Word) (s : State) : State := s.withSp { s.sp with pointer := a }

/-- The Plan Store has a LOAD or a STORE in flight (R177). -/
def planBusy (s : State) : Bool := s.ps.op != .none

/-- PEEK acts (R175). -/
def doPeek (a : Word) (s : State) : State :=
  withReply [readAddress s a.toNat] (withPointer a s)

/-- POKE acts (R175). -/
def doPoke (a : Word) (v : Byte) (s : State) : State :=
  withReply [] (writeAddress a.toNat v (withPointer a s))

/-- PEEK_ON acts (R175): the first byte is read, and the second one's read is still to come; the reply shows
for it the byte as it stands, which the read at the second moment replaces (DESIGN CHOICE, log entry 23). -/
def doPeekOn (s : State) : State :=
  let t := withReply
    [readAddress s (s.sp.pointer + 1).toNat, readAddress s (s.sp.pointer + 2).toNat]
    (withPointer (s.sp.pointer + 2) s)
  t.withSp { t.sp with secondRead := true }

/-- The second moment of a PEEK_ON (R175): the byte at the pointer, which PEEK_ON has left at its second
address, is read as it stands now. -/
def takeSecondRead (s : State) : ServicePort :=
  if s.sp.secondRead then
    { s.sp with
      reply := s.sp.reply.take 1 ++ [readAddress s s.sp.pointer.toNat], secondRead := false }
  else s.sp

/-- POKE_ON acts (R175). -/
def doPokeOn (v : Byte) (s : State) : State :=
  withReply [] (writeAddress (s.sp.pointer + 1).toNat v (withPointer (s.sp.pointer + 1) s))

/-- SUMMARY acts (R179). -/
def doSummary (s : State) : State := withReply (summaryBytes s) s

/-- ADOPT acts (R170): status 0, 1 or 2. -/
def doAdopt (s : State) : State :=
  if planPermitted s then
    withReply [if (failingCheck s.ps.image).isSome then 1 else 0] (adoption s)
  else withReply [2] s

/-- STORE acts (R171, R178): permitted, it is in flight and its reply waits; otherwise status 3. -/
def doStore (s : State) : State :=
  if planPermitted s then withReply [] (s.withPs { s.ps with op := .store }) else withReply [3] s

/-- A command acts (R175); while the Plan Store is busy every command but SUMMARY is answered BUSY
(R177). -/
def actCommand (c : ServiceCommand) (s : State) : State :=
  if planBusy s && c != .summary then withReply [busyByte] s
  else
    match c with
    | .peek a => doPeek a s
    | .poke a v => doPoke a v s
    | .peekOn => doPeekOn s
    | .pokeOn v => doPokeOn v s
    | .summary => doSummary s
    | .adopt => doAdopt s
    | .store => doStore s
    | .restart => resetNode s

/-! ### The parser (R173 to R175) -/

/-- The number of operand bytes of a code, or none for a code that names no command (R175). -/
def operandCount (code : Byte) : Option Nat :=
  if code = 0x11 then some 2
  else if code = 0x12 then some 3
  else if code = 0x14 then some 1
  else if code = 0x13 ∨ code = 0x20 ∨ code = 0x30 ∨ code = 0x31 ∨ code = 0x3F then some 0
  else none

/-- The command of a code and its operand bytes. -/
def commandOf (code : Byte) : List Byte → Option ServiceCommand
  | [] =>
    if code = 0x13 then some .peekOn
    else if code = 0x20 then some .summary
    else if code = 0x30 then some .adopt
    else if code = 0x31 then some .store
    else if code = 0x3F then some .restart
    else none
  | [v] => if code = 0x14 then some (.pokeOn v) else none
  | [hi, lo] => if code = 0x11 then some (.peek (wordOf hi lo)) else none
  | [hi, lo, v] => if code = 0x12 then some (.poke (wordOf hi lo) v) else none
  | _ => none

/-- The state after a byte has been received and echoed (R173); what was being sent has ended. -/
def echoByte (b : Byte) (parser : List Byte) (s : State) : State :=
  s.withSp { s.sp with parser := parser, echo := some b, reply := [], secondRead := false }

/-- A byte is received (R173, R175): it is echoed, and the command acts when it is complete. Between a
break and the end of its echo no byte is taken (DEDUCED, log entry 17). -/
def receiveByte (b : Byte) (s : State) : State :=
  if s.sp.breakHeld then s
  else
    match s.sp.parser with
    | [] =>
      match operandCount b with
      | none => echoByte b [] s
      | some n =>
        if n = 0 then
          match commandOf b [] with
          | some c => actCommand c (echoByte b [] s)
          | none => echoByte b [] s
        else echoByte b [b] s
    | code :: ops =>
      if (operandCount code).getD 0 ≤ ops.length + 1 then
        match commandOf code (ops ++ [b]) with
        | some c => actCommand c (echoByte b [] s)
        | none => echoByte b [] s
      else echoByte b (code :: ops ++ [b]) s

/-- A command's bytes have been received whole (R175): those not received yet come in now, and the command
acts at the echo of the last. When the parser is part-way through other bytes, or a break is held, the
event cannot happen (DESIGN CHOICE, log entries 2 and 16). -/
def wholeCommand (c : ServiceCommand) (s : State) : State :=
  if s.sp.breakHeld then s
  else if s.sp.parser.isPrefixOf (commandBytes c) && s.sp.parser != commandBytes c then
    actCommand c (echoByte ((commandBytes c).getLastD 0) [] s)
  else s

/-! ### Meanings -/

/-- RESET (R19). -/
def execReset (s : State) : Host.Outcome State Fault Refusal := .next (resetNode s)

/-- PEEK (R175). -/
def execPeek (a : Word) (s : State) : Host.Outcome State Fault Refusal :=
  .next (wholeCommand (.peek a) s)

/-- POKE (R175). -/
def execPoke (a : Word) (v : Byte) (s : State) : Host.Outcome State Fault Refusal :=
  .next (wholeCommand (.poke a v) s)

/-- PEEK_ON (R175). -/
def execPeekOn (s : State) : Host.Outcome State Fault Refusal := .next (wholeCommand .peekOn s)

/-- POKE_ON (R175). -/
def execPokeOn (v : Byte) (s : State) : Host.Outcome State Fault Refusal :=
  .next (wholeCommand (.pokeOn v) s)

/-- SUMMARY (R179). -/
def execSummary (s : State) : Host.Outcome State Fault Refusal := .next (wholeCommand .summary s)

/-- ADOPT (R170). -/
def execAdopt (s : State) : Host.Outcome State Fault Refusal := .next (wholeCommand .adopt s)

/-- STORE (R171). -/
def execStore (s : State) : Host.Outcome State Fault Refusal := .next (wholeCommand .store s)

/-- RESTART (R175). -/
def execRestart (s : State) : Host.Outcome State Fault Refusal := .next (wholeCommand .restart s)

/-- UNKNOWN_COMMAND_CODE (R175): the byte is received like any other. -/
def execUnknownCommandCode (code : Byte) (s : State) : Host.Outcome State Fault Refusal :=
  .next (receiveByte code s)

/-- SERVICE_BYTE_RECEIVED (R173, R175). -/
def execServiceByteReceived (b : Byte) (s : State) : Host.Outcome State Fault Refusal :=
  .next (receiveByte b s)

/-- FRAMING_ERROR (R173): no echo, the parser returns to idle. -/
def execFramingError (s : State) : Host.Outcome State Fault Refusal :=
  .next (if s.sp.breakHeld then s
    else s.withSp { s.sp with parser := [], echo := none, reply := [], secondRead := false })

/-- BREAK (R174): the parser returns to idle, and the reply ends after the bytes that have gone out. -/
def execLineBreak (sent : Nat) (s : State) : Host.Outcome State Fault Refusal :=
  .next (s.withSp { s.sp with
    parser := [], reply := s.sp.reply.take sent, breakHeld := true, secondRead := false })

/-- BREAK_ECHO (R174): the break recognised is echoed, and the next byte is a command code. -/
def execBreakEcho (s : State) : Host.Outcome State Fault Refusal :=
  .next (s.withSp { s.sp with breakHeld := false })

/-- STORE_REPLY_SENT (R178): with the parser idle and nothing being sent, the pending status goes out. -/
def execStoreReplySent (s : State) : Host.Outcome State Fault Refusal :=
  .next
    (match s.sp.pendingStore with
      | some st =>
        if s.sp.parser = [] ∧ s.sp.breakHeld = false then
          s.withSp { s.sp with pendingStore := none, reply := [byteOf st.val], secondRead := false }
        else s
      | none => s)

end Sys2Proof.Machine
end

