-- ==== Sys2Proof/Machine/Bus.lean ====
section
/-! DEFINITION. The meanings of the lift bus rows: line access, and the good frames of other nodes (R1 to
R17, R26, R86, R149, R152). -/

namespace Sys2Proof.Machine

open Sys2Proof

/-! ### Line access -/

/-- The idle event of the line (R1, R4, R6, R14). The first one after reset judges no run (DEDUCED, log entry 21);
an idle line with no run has no further one (DESIGN CHOICE, log entry 2). -/
def idleEvent (rest : List BusByte) (s : State) : State :=
  let run := s.lau.run ++ rest
  if !s.lau.synced then lineIdle s.lau.last s
  else if run = [] ∧ s.lau.lineBusy = false then s
  else endOfRun (judgeRun run) (fun f => run == (frameBytes f).map some) s

/-- IDLE_EVENT (R4). -/
def execIdleEvent (rest : List BusByte) (s : State) : Host.Outcome State Fault Refusal :=
  .next (idleEvent rest s)

/-- LINE_BECOMES_BUSY (R13): the deferral count is abandoned, no attempt counted. -/
def execLineBecomesBusy (s : State) : Host.Outcome State Fault Refusal :=
  .next (if s.lau.lineBusy then s
    else s.withLau { s.lau with lineBusy := true, deferral := none, run := [] })

/-- DEFERRAL_RUNS_OUT (R13, R14): on an idle line with a deferral running, the transmitter takes the head
frame. A node without a plan in force starts no transmission (R18). -/
def execDeferralRunsOut (s : State) : Host.Outcome State Fault Refusal :=
  .next (if s.lau.deferral.isSome && !s.lau.lineBusy && s.lau.transmitter.isNone && s.ps.plan.isSome
    then s.withLau (lauTakeHead s.lau) else s)

/-- A byte of the frame on the line has read back differently (R15): the run now holds the bytes before
it and what was read back. -/
def collision (offset : Nat) (readBack : BusByte) (s : State) : State :=
  match s.lau.transmitter with
  | none => s
  | some q =>
    match (frameBytes q.frame)[offset]? with
    | none => s
    | some b =>
      if readBack = some b then s
      else collided q (s.withLau { s.lau with
        run := ((frameBytes q.frame).take offset).map some ++ [readBack] })

/-- COLLISION (R15). -/
def execCollision (offset : Nat) (readBack : BusByte) (s : State) :
    Host.Outcome State Fault Refusal := .next (collision offset readBack s)

/-- TRANSMISSION_COMPLETE (R6). -/
def execTransmissionComplete (s : State) : Host.Outcome State Fault Refusal :=
  .next
    (match s.lau.transmitter with
      | some q => transmissionDone q s
      | none => s)

/-! ### Good frames of other nodes -/

/-- REPORT (R26). -/
def execReport (sender : NodeNum) (epochByte : Byte) (r : ReportBody) (s : State) :
    Host.Outcome State Fault Refusal :=
  .next (frameEnds { sender := sender, epochByte := epochByte, body := .report r } s)

/-- START_UP (R87). -/
def execStartUp (sender : NodeNum) (epochByte seq : Byte) (preset : Preset) (s : State) :
    Host.Outcome State Fault Refusal :=
  .next (frameEnds
    { sender := sender, epochByte := epochByte, body := .motion (.start .up seq preset) } s)

/-- START_DOWN (R87). -/
def execStartDown (sender : NodeNum) (epochByte seq : Byte) (preset : Preset) (s : State) :
    Host.Outcome State Fault Refusal :=
  .next (frameEnds
    { sender := sender, epochByte := epochByte, body := .motion (.start .down seq preset) } s)

/-- KEEP_UP (R88). -/
def execKeepUp (sender : NodeNum) (epochByte seq : Byte) (preset : Preset) (s : State) :
    Host.Outcome State Fault Refusal :=
  .next (frameEnds
    { sender := sender, epochByte := epochByte, body := .motion (.keep .up seq preset) } s)

/-- KEEP_DOWN (R88). -/
def execKeepDown (sender : NodeNum) (epochByte seq : Byte) (preset : Preset) (s : State) :
    Host.Outcome State Fault Refusal :=
  .next (frameEnds
    { sender := sender, epochByte := epochByte, body := .motion (.keep .down seq preset) } s)

/-- END (R91). -/
def execEndSession (sender : NodeNum) (epochByte : Byte) (token : Token) (s : State) :
    Host.Outcome State Fault Refusal :=
  .next (frameEnds { sender := sender, epochByte := epochByte, body := .motion (.finish token) } s)

/-- HALT (R149). -/
def execHalt (sender : NodeNum) (epochByte : Byte) (h : HaltBody) (s : State) :
    Host.Outcome State Fault Refusal :=
  .next (frameEnds { sender := sender, epochByte := epochByte, body := .halt h } s)

/-- CLEAR (R152). -/
def execClear (sender : NodeNum) (epochByte : Byte) (s : State) : Host.Outcome State Fault Refusal :=
  .next (frameEnds { sender := sender, epochByte := epochByte, body := .clear } s)

end Sys2Proof.Machine
end

