-- ==== Sys2Proof/Config.lean ====
section
/-! DEFINITION. What the spec leaves open: free values, which no proof can see. -/

namespace Sys2Proof

/-- FREE VALUE (DESIGN CHOICE, log entry 4). The datum offset applied to the `n`-th position read that completes while
no plan is in force: R42 has such a read update h by R43, R43 adds "the plan's datum offset", and by
R158 there is no plan then. -/
opaque Config.datumWithoutPlan : Nat → Word

end Sys2Proof
end

