-- ==== Sys2Proof/Machine/Column.lean ====
section
/-! DEFINITION. The meanings of the control period and of the column's rows: position read, demand transfer,
load, switches, drive status, pendant, timers, and the configuration memory (R31 to R33, R42 to R58,
R75, R81 to R84, R92, R99, R151, R163, R171). -/

namespace Sys2Proof.Machine

open Sys2Proof

/-! ### Control period (R99) -/

/-- The keep count advances, and a session whose count reaches K_keep ends with KEEP_LOST (R92). -/
def advanceKeep (p : Plan) (s : State) : State :=
  match s.su.session with
  | none => s
  | some ss =>
    let s1 := s.withSu { s.su with session := some { ss with keep := ss.keep + 1 } }
    if p.kKeep ≤ ss.keep + 1 then endSession .keepLost s1 else s1

/-- The KEEP that the press and session records call for (R82). -/
def keepDue (su : SessionUnit) : Option Motion :=
  match su.press, su.session with
  | .waiting t d p, none => some (.keep d t.sequence p)
  | .held t d p, some ss => if ss.token = t then some (.keep d t.sequence p) else none
  | .waiting _ _ _, some _ => none
  | .held _ _ _, none => none
  | .none, _ => none
  | .spent _ _ _, _ => none

/-- The KEEP of an expiry is composed, when the phase allows it (R82). -/
def composeKeep (s : State) : State :=
  if isDeaf s.phc.phase then s
  else
    match keepDue s.su with
    | some m => composeMotion m s
    | none => s

/-- The Peer Table's expiry (R31 to R33): the table ages, and the LIVE entries that fall silent trip
PEER_SILENT when the node was moving or held a session as the expiry began. -/
def agePeers (p : Plan) (s : State) : State :=
  let watched := isMoving s.phc.phase || s.su.session.isSome
  let silent := if watched then fallingSilent p.kSil s.pt else []
  silent.foldl (fun t j => trip .peerSilent none (some j) t) (s.withPt (s.pt.age p.kSil))

/-- A control period expiry under a plan (R99; DESIGN CHOICE, log entry 10): the timer re-arms, the table ages, a position
read starts, the keep count advances and a KEEP may be composed. -/
def controlExpiry (p : Plan) (s : State) : State :=
  let s1 := agePeers p (s.withPu { s.pu with timer := some (periodTime p) })
  let s2 := s1.withCi { s1.ci with read := .inFlight }
  composeKeep (advanceKeep p s2)

/-- CONTROL_PERIOD_EXPIRY (R99); the timer runs only under a plan (R98). -/
def execControlPeriodExpiry (s : State) : Host.Outcome State Fault Refusal :=
  .next
    (match s.ps.plan, s.pu.timer with
      | some p, some _ => controlExpiry p s
      | some _, none => s
      | none, _ => s)

/-! ### Position read (R42 to R44) -/

/-- The height and invalid-read run after a read (R43, R44). -/
def takeRead (valid : Bool) (position datum : Word) (ci : ColumnInterface) : ColumnInterface :=
  if valid then
    { ci with read := .idle, height := some (heightOf position datum), invalidRun := 0 }
  else { ci with read := .idle, invalidRun := min 255 (ci.invalidRun + 1) }

/-- A read handed on under a plan: the start read is noted, or ENCODER_FAULT reported at a run of 2, and
then the Pace Unit computes (R43, R44, R64; DEDUCED, log entry 11). An invalid read whose run reaches 2 in
RETRACT halts the node before R72's comparison, which then finds no RETRACT (DESIGN CHOICE, log entry 33). -/
def readHandedOn (p : Plan) (valid : Bool) (position : Word) (s : State) : State :=
  let s1 := s.withCi (takeRead valid position p.datum s.ci)
  let s2 :=
    if valid then noteValidRead s1
    else if s1.ci.invalidRun = 2 then trip .encoderFault none none s1
    else s1
  computation p s2

/-- A read that is not handed on updates the height and the run alone (R42). With no plan in force the
datum offset is a free value (DESIGN CHOICE, log entry 4). -/
def readKept (valid : Bool) (position : Word) (s : State) : State :=
  match s.ps.plan with
  | some p => s.withCi (takeRead valid position p.datum s.ci)
  | none =>
    { s.withCi (takeRead valid position (Config.datumWithoutPlan s.freeCount) s.ci) with
      freeCount := s.freeCount + 1 }

/-- The completion of a position read (R42 to R44). -/
def readComplete (valid : Bool) (position : Word) (s : State) : State :=
  match s.ci.read, s.ps.plan with
  | .idle, _ => s
  | .inFlight, some p => readHandedOn p valid position s
  | .inFlight, none => readKept valid position s
  | .inFlightNotHanded, _ => readKept valid position s

/-- POSITION_READ_COMPLETE (R43). -/
def execPositionReadComplete (acknowledge : Bool) (position : Word) (parity final : Bool) (s : State) :
    Host.Outcome State Fault Refusal :=
  .next (readComplete (readValid acknowledge position parity final) position s)

/-- DEMAND_TRANSFER_COMPLETE (R51): the word's value becomes the one last sent, and a waiting word follows it. -/
def execDemandTransferComplete (s : State) : Host.Outcome State Fault Refusal :=
  .next
    (match s.ci.transfer with
      | some w => s.withCi { s.ci with lastWord := w.value, transfer := s.ci.nextWord, nextWord := none }
      | none => s)

/-! ### Load (R45 to R50) -/

/-- The Column Interface after an arrival under a plan (R45, R46, R50). -/
def takeLoad (p : Plan) (load : Word) (ci : ColumnInterface) : ColumnInterface :=
  { countRuns p.contactLevel p.padRating load.toNat ci with
    load := some load, loadTimer := some loadSilenceTime, loadSilent := false }

/-- The start-sample count; at the third arrival the verdict is noted (R47). -/
def countStartSample (s : State) : State :=
  if s.ci.startSamples < 3 then
    let s1 := s.withCi { s.ci with startSamples := s.ci.startSamples + 1 }
    if s1.ci.startSamples = 3 then noteVerdict (columnLoaded s1.ci) s1 else s1
  else s

/-- Contact made in APPROACH (R48, R68). -/
def contactMade (s : State) : State :=
  if s.phc.phase = .approach ∧ columnLoaded s.ci = true then
    changePhase .contact (s.withCi { s.ci with contactHeight := s.ci.height })
  else s

/-- The unloaded report in LOWER (R47, R71). -/
def unloaded (p : Plan) (s : State) : State :=
  if s.phc.phase = .lower ∧ 3 ≤ s.ci.unloadRun ∧ aboveUnloadZone p s = false then
    changePhase .retract s
  else s

/-- An arrival under a plan (R45 to R48, R71, R142; DESIGN CHOICE, log entry 9). -/
def loadArrives (p : Plan) (load : Word) (s : State) : State :=
  let s1 := unloaded p (contactMade (countStartSample (s.withCi (takeLoad p load s.ci))))
  tripAll (loadCauses s1) s1

/-- LOAD_SAMPLE (R45): a burst of other than 16 edges is discarded; before adoption a sample sets only the
latest load (R46, DEDUCED, log entry 15). -/
def execLoadSample (edges : Nat) (load : Word) (s : State) : Host.Outcome State Fault Refusal :=
  .next
    (if edges = 16 then
      match s.ps.plan with
      | some p => loadArrives p load s
      | none => s.withCi { s.ci with load := some load }
    else s)

/-- LOAD_SILENCE_EXPIRY (R50). -/
def execLoadSilenceExpiry (s : State) : Host.Outcome State Fault Refusal :=
  .next
    (match s.ci.loadTimer with
      | some _ =>
        trip .loadSilent none none (s.withCi { s.ci with loadSilent := true, loadTimer := none })
      | none => s)

/-! ### Lines (R53 to R56) -/

/-- INPUTS_SETTLED (R54, R163): every line has its filtered level, and in UNPLANNED with no operation in
flight the LOAD begins (DESIGN CHOICE and DEDUCED, log entries 6, 7 and 31). -/
def execInputsSettled (l : LineLevels) (s : State) : Host.Outcome State Fault Refusal :=
  .next
    (if s.ci.inputsSettled then s
    else
      let levels := settleLevels s.ci.levels l
      let s1 := s.withCi { s.ci with
        levels := levels, inputsSettled := true, held := heldOf levels.up levels.down }
      if s.phc.phase = .unplanned ∧ s.ps.op = .none then s1.withPs { s.ps with op := .load } else s1)

/-- The causes that a safety line can raise (R55). -/
def raisedBy : SafetyLine → Cause × Option TravelSide → Bool
  | .estop, c => c.1 == .estop
  | .limitUp, c => c == (.travelLimit, some .upper)
  | .limitDown, c => c == (.travelLimit, some .lower)
  | .nut, c => c.1 == .nutEngaged

/-- A filtered change of a safety line is judged by the switch checks (R55, R141). -/
def switchMoves (line : SafetyLine) (level : Bool) (s : State) : State :=
  let s1 := s.withCi { s.ci with levels := withSafetyLevel s.ci.levels line level }
  tripAll ((switchCauses s1.phc.phase s1.ci.levels).filter (raisedBy line)) s1

/-- SWITCH_CHANGE (R55): a line that had no level settles (DESIGN CHOICE, log entry 6); the level held already is no
change; a change is reported after adoption (R60). -/
def execSwitchChange (line : SafetyLine) (level : Bool) (s : State) :
    Host.Outcome State Fault Refusal :=
  .next
    (match safetyLevel s.ci.levels line with
      | none => s.withCi { s.ci with levels := withSafetyLevel s.ci.levels line level }
      | some old => if old = level then s else switchMoves line level s)

/-- A filtered change of a drive status line (R53). -/
def driveStatusMoves (line : DriveLine) (level : Bool) (s : State) : State :=
  let s1 := s.withCi { s.ci with levels := withDriveLevel s.ci.levels line level }
  let ready := s1.ci.levels.driveReady == some true && s1.ci.levels.driveFault == some false
  let s2 := if ready then s1.withCi { s1.ci with driveNotReady := false } else s1
  if s2.ci.levels.driveFault = some true ∧ line = .fault then trip .driveFault none none s2 else s2

/-- DRIVE_STATUS_CHANGE (R53). -/
def execDriveStatusChange (line : DriveLine) (level : Bool) (s : State) :
    Host.Outcome State Fault Refusal :=
  .next
    (match driveLevel s.ci.levels line with
      | none => s.withCi { s.ci with levels := withDriveLevel s.ci.levels line level }
      | some old => if old = level then s else driveStatusMoves line level s)

/-! ### Pendant (R56 to R58, R81, R83, R84) -/

/-- The levels with the pendant direction and selector lines at new levels (R56, R58). -/
def withPendant (l : FilteredLevels) (up down : Bool) (selector : BitVec 3) : FilteredLevels :=
  { l with up := some up, down := some down, preset0 := some (selector.getLsbD 0),
           preset1 := some (selector.getLsbD 1), preset2 := some (selector.getLsbD 2) }

/-- A press reaches the Session Unit (R81). -/
def takePress (dir : Direction) (preset : Preset) (s : State) : State :=
  if isDeaf s.phc.phase || !s.ps.adopted then
    s.withSu { s.su with press := .spent none dir (some preset) }
  else
    let seq := s.su.sequence + 1
    composeMotion (.start dir seq preset)
      (s.withSu { s.su with
        sequence := seq
        press := .waiting { originator := ownNode s, sequence := seq } dir preset })

/-- A release reaches the Session Unit (R83). -/
def takeRelease (s : State) : State :=
  match s.su.press with
  | .waiting t _ _ => composeMotion (.finish t) (s.withSu { s.su with press := .none })
  | .held t _ _ => composeMotion (.finish t) (s.withSu { s.su with press := .none })
  | .spent _ _ _ => s.withSu { s.su with press := .none }
  | .none => s

/-- The release of the old direction and then the press of the new one (R56); pendant events are handed on
after adoption. -/
def handDirection (old new : Option Direction) (s : State) : State :=
  match s.ps.plan with
  | none => s
  | some _ =>
    let s1 := if old.isSome then takeRelease s else s
    match new with
    | some d => takePress d (selectedPreset s.ci.levels) s1
    | none => s1

/-- HELD_DIRECTION_CHANGE (R56): lines that had no level settle and give no event (DESIGN CHOICE and DEDUCED, log entries 6 and 7). -/
def execHeldDirectionChange (up down : Bool) (selector : BitVec 3) (s : State) :
    Host.Outcome State Fault Refusal :=
  .next
    (let levels := withPendant s.ci.levels up down selector
    let new := heldOf levels.up levels.down
    let s1 := s.withCi { s.ci with levels := levels, held := new }
    if s.ci.levels.up.isNone || s.ci.levels.down.isNone || s.ci.held == new then s1
    else handDirection s.ci.held new s1)

/-- The press record after a stop press (R84). -/
def pressOnStop : Press → Press
  | .waiting t d p => .spent (some t) d (some p)
  | .held t d p => .spent (some t) d (some p)
  | .spent t d p => .spent t d p
  | .none => .none

/-- A stop press reaches the Session Unit (R84). -/
def takeStop (s : State) : State :=
  if isDeaf s.phc.phase then s
  else
    match s.su.session, s.su.press with
    | some ss, pr =>
      composeMotion (.finish ss.token) (s.withSu { s.su with press := pressOnStop pr })
    | none, .waiting t d p =>
      composeMotion (.finish t) (s.withSu { s.su with press := .spent (some t) d (some p) })
    | none, .none => s
    | none, .held _ _ _ => s
    | none, .spent _ _ _ => s

/-- STOP_PRESS (R57, R84): the change to pressed is handed on after adoption; holding and releasing give
nothing. -/
def execStopPress (pressed : Bool) (s : State) : Host.Outcome State Fault Refusal :=
  .next
    (let s1 := s.withCi { s.ci with levels := { s.ci.levels with stop := some pressed } }
    if s.ci.levels.stop = some false ∧ pressed = true ∧ s.ps.plan.isSome = true then takeStop s1
    else s1)

/-- The RESET_REQ hold time in microseconds (R57). -/
def holdTime : Nat := 1000000

/-- RESET_REQ_CHANGE (R57): a press starts the hold timer, a release stops it; a level at settling and a
level held already start nothing. -/
def execResetReqChange (pressed : Bool) (s : State) : Host.Outcome State Fault Refusal :=
  .next
    (s.withCi { s.ci with
      levels := { s.ci.levels with resetReq := some pressed }
      holdTimer :=
        if pressed then (if s.ci.levels.resetReq = some false then some holdTime else s.ci.holdTimer)
        else none })

/-- The CLEAR that a reset request composes (R151). -/
def clearFrame (s : State) : Frame :=
  { sender := ownNode s
    epochByte := match s.tm.epoch with
      | some e => e + 1
      | none => 1
    body := .clear }

/-- RESET_REQUEST_HOLD_EXPIRY (R57, R151): one reset request, which a halted node answers with a CLEAR. -/
def execResetRequestHoldExpiry (s : State) : Host.Outcome State Fault Refusal :=
  .next
    (match s.ci.holdTimer with
      | some _ =>
        let s1 := s.withCi { s.ci with holdTimer := none }
        if isHalted s1 then compose (clearFrame s1) s1 else s1
      | none => s)

/-- CONTACT_TIMEOUT (R75). -/
def execContactTimeout (s : State) : Host.Outcome State Fault Refusal :=
  .next
    (match s.phc.contactTimer with
      | some _ => trip .contactTimeout none none (s.withPhc { s.phc with contactTimer := none })
      | none => s)

/-! ### Configuration memory (R163, R171) -/

/-- LOAD_COMPLETE (R163): the image takes the bytes read, and is adopted at once. -/
def execLoadComplete (bytes : List Byte) (s : State) : Host.Outcome State Fault Refusal :=
  .next
    (if s.ps.op = .load then
      adoption (s.withPs { s.ps with image := Memory.ofLoad bytes, op := .none })
    else s)

/-- LOAD_NO_MEMORY (R163). -/
def execLoadNoMemory (s : State) : Host.Outcome State Fault Refusal :=
  .next
    (if s.ps.op = .load then
      latchEvent .plan (s.withPs { s.ps with op := .none, outcome := .noMemory })
    else s)

/-- The status of a STORE (R171): 0 when every byte read back equals the image, 1 when the memory did not
acknowledge, 2 when a byte differs. -/
def storeStatusOf (image : Memory) : Option (List Byte) → Fin 3
  | none => 1
  | some bytes => if bytes = image.bytes 0 256 then 0 else 2

/-- STORE_COMPLETE (R171, R178). -/
def execStoreComplete (readBack : Option (List Byte)) (s : State) : Host.Outcome State Fault Refusal :=
  .next
    (if s.ps.op = .store then
      let st := storeStatusOf s.ps.image readBack
      (s.withPs { s.ps with op := .none, storeStatus := some st }).withSp
        { s.sp with pendingStore := some st }
    else s)

end Sys2Proof.Machine
end

