-- ==== Sys2Proof/Machine/Dispatch.lean ====
section
/-! DEFINITION. The dispatch: one arm per command. -/

namespace Sys2Proof.Machine

open Sys2Proof

/-- The meaning of a command on everything but the queue. -/
def exec (i : Instr) (s : State) : Host.Outcome State Fault Refusal :=
  match i with
  | .reset => Sys2Proof.Machine.execReset s
  | .idleEvent a => Sys2Proof.Machine.execIdleEvent a s
  | .lineBecomesBusy => Sys2Proof.Machine.execLineBecomesBusy s
  | .deferralRunsOut => Sys2Proof.Machine.execDeferralRunsOut s
  | .collision a b => Sys2Proof.Machine.execCollision a b s
  | .transmissionComplete => Sys2Proof.Machine.execTransmissionComplete s
  | .report a b c => Sys2Proof.Machine.execReport a b c s
  | .startUp a b c d => Sys2Proof.Machine.execStartUp a b c d s
  | .startDown a b c d => Sys2Proof.Machine.execStartDown a b c d s
  | .keepUp a b c d => Sys2Proof.Machine.execKeepUp a b c d s
  | .keepDown a b c d => Sys2Proof.Machine.execKeepDown a b c d s
  | .endSession a b c => Sys2Proof.Machine.execEndSession a b c s
  | .halt a b c => Sys2Proof.Machine.execHalt a b c s
  | .clear a b => Sys2Proof.Machine.execClear a b s
  | .controlPeriodExpiry => Sys2Proof.Machine.execControlPeriodExpiry s
  | .positionReadComplete a b c d => Sys2Proof.Machine.execPositionReadComplete a b c d s
  | .loadSample a b => Sys2Proof.Machine.execLoadSample a b s
  | .loadSilenceExpiry => Sys2Proof.Machine.execLoadSilenceExpiry s
  | .demandTransferComplete => Sys2Proof.Machine.execDemandTransferComplete s
  | .inputsSettled a => Sys2Proof.Machine.execInputsSettled a s
  | .switchChange a b => Sys2Proof.Machine.execSwitchChange a b s
  | .driveStatusChange a b => Sys2Proof.Machine.execDriveStatusChange a b s
  | .heldDirectionChange a b c => Sys2Proof.Machine.execHeldDirectionChange a b c s
  | .stopPress a => Sys2Proof.Machine.execStopPress a s
  | .resetReqChange a => Sys2Proof.Machine.execResetReqChange a s
  | .resetRequestHoldExpiry => Sys2Proof.Machine.execResetRequestHoldExpiry s
  | .contactTimeout => Sys2Proof.Machine.execContactTimeout s
  | .loadComplete a => Sys2Proof.Machine.execLoadComplete a s
  | .loadNoMemory => Sys2Proof.Machine.execLoadNoMemory s
  | .storeComplete a => Sys2Proof.Machine.execStoreComplete a s
  | .storeReplySent => Sys2Proof.Machine.execStoreReplySent s
  | .peek a => Sys2Proof.Machine.execPeek a s
  | .poke a b => Sys2Proof.Machine.execPoke a b s
  | .peekOn => Sys2Proof.Machine.execPeekOn s
  | .pokeOn a => Sys2Proof.Machine.execPokeOn a s
  | .summary => Sys2Proof.Machine.execSummary s
  | .adopt => Sys2Proof.Machine.execAdopt s
  | .store => Sys2Proof.Machine.execStore s
  | .restart => Sys2Proof.Machine.execRestart s
  | .unknownCommandCode a => Sys2Proof.Machine.execUnknownCommandCode a s
  | .framingError => Sys2Proof.Machine.execFramingError s
  | .lineBreak a => Sys2Proof.Machine.execLineBreak a s
  | .breakEcho => Sys2Proof.Machine.execBreakEcho s
  | .serviceByteReceived a => Sys2Proof.Machine.execServiceByteReceived a s

end Sys2Proof.Machine
end

