-- ==== Sys2Proof/Machine/Ticks.lean ====
section
/-! DEFINITION. What passes when no command waits: one idle slot of the lift bus (R12, R13; DESIGN CHOICE, log entry 3). -/

namespace Sys2Proof.Machine

open Sys2Proof

/-- The length of a slot in microseconds: one byte time of ten bits (R1). -/
def slotTime : Nat := 10

/-- A running timer a slot later; it stands at 0 until its expiry is commanded (DESIGN CHOICE, log entry 3). -/
def runDown (t : Option Nat) : Option Nat := t.map (· - slotTime)

/-- A running deferral a slot later: whole idle slots are counted until the deferral is reached, and a count
that has reached or passed it stays (R13). -/
def countSlot (d : Deferral) : Deferral :=
  { d with slots := if d.slots < d.needed then d.slots + 1 else d.slots }

/-- One idle slot of 10 µs with no event (DESIGN CHOICE, log entry 3): on an idle line a running deferral counts it, and
the control, load-silence, hold and contact timers come nearer to their expiry; a PEEK_ON whose second byte is
still to be read reads it (R175; DESIGN CHOICE, log entry 23). Nothing else changes. -/
def idleSlot (s : State) : State :=
  { s with
    lau := if s.lau.lineBusy then s.lau else { s.lau with deferral := s.lau.deferral.map countSlot }
    ci := { s.ci with loadTimer := runDown s.ci.loadTimer, holdTimer := runDown s.ci.holdTimer }
    phc := { s.phc with contactTimer := runDown s.phc.contactTimer }
    pu := { s.pu with timer := runDown s.pu.timer }
    sp := takeSecondRead s }

end Sys2Proof.Machine
end

