-- ==== Sys2Proof/Safety.lean ====
section
/-! DEFINITION. The laws of the device and the other conditions that every step keeps, in the terms that the
statements use. -/

namespace Sys2Proof.Safety

open Sys2Proof Sys2Proof.Machine

/-! ### Lanes (R9 to R11, R15) -/

/-- The frames of a lane that have a kind. -/
def ofKind (k : FrameKind) (lane : List Queued) : Nat :=
  (lane.filter (fun q => frameKind q.frame == k)).length

/-- The law of R11: the urgent lane holds at most one HALT and one CLEAR and nothing else, the normal lane
at most one REPORT and one MOTION and nothing else; no frame in hand has sixteen attempts (R15). -/
def LanesLaw (l : LineAccess) : Prop :=
  ofKind .halt l.urgent ≤ 1 ∧ ofKind .clear l.urgent ≤ 1
    ∧ ofKind .report l.urgent = 0 ∧ ofKind .motion l.urgent = 0
    ∧ ofKind .report l.normal ≤ 1 ∧ ofKind .motion l.normal ≤ 1
    ∧ ofKind .halt l.normal = 0 ∧ ofKind .clear l.normal = 0
    ∧ (∀ q ∈ l.urgent ++ l.normal ++ l.transmitter.toList, q.attempts < 16)

/-- The line and the deferral (R13, R14): before the first idle event the line counts as busy; while the
transmitter holds a frame the line is busy; a deferral runs only on an idle line; and on an idle line a
waiting frame has its deferral running. -/
def LineLaw (s : State) : Prop :=
  (s.lau.synced = false → s.lau.lineBusy = true)
    ∧ (s.lau.transmitter.isSome = true → s.lau.lineBusy = true ∧ s.lau.synced = true)
    ∧ (s.lau.lineBusy = true → s.lau.deferral = none)
    ∧ (s.lau.lineBusy = false → (s.lau.deferral.isSome ↔ (headFrame s.lau).isSome))

/-! ### Phase, halt record, plan and drive (R52, R61, R111, R137, R158) -/

/-- The phase is HALTED exactly while the halt record holds a halt (R137). -/
def HaltAgrees (s : State) : Prop := s.phc.phase = .halted ↔ s.tm.record.isSome = true

/-- A plan is in force exactly outside UNPLANNED (R158). -/
def PlanAgrees (s : State) : Prop := s.phc.phase = .unplanned ↔ s.ps.plan = none

/-- The law of R52: the drive lines are asserted exactly in a moving phase, both together, and outside the
moving phases the drive demand is 0. -/
def DriveLaw (s : State) : Prop :=
  s.ci.driveEnable = isMoving s.phc.phase ∧ s.ci.brakeRelease = s.ci.driveEnable
    ∧ (isMoving s.phc.phase = false → s.pu.demand = 0)

/-- The phase agrees with record, plan and drive. -/
def PhaseLaw (s : State) : Prop := HaltAgrees s ∧ PlanAgrees s ∧ DriveLaw s

/-- The seventeen bits of a demand word hold an even number of ones (R51). -/
def EvenWord (d : DemandWord) : Prop :=
  (((List.range 16).filter d.value.getLsbD).length + d.parity.toNat) % 2 = 0

/-- The value that the drive holds once every word on its way has gone out (R51). -/
def heldValue (ci : ColumnInterface) : Word :=
  match ci.nextWord, ci.transfer with
  | some d, _ => d.value
  | none, some d => d.value
  | none, none => ci.lastWord

/-- The words on their way to the drive (R51): each is even, none waits but behind a transfer, and the drive
ends holding the node's demand. -/
def DriveWordLaw (s : State) : Prop :=
  (∀ d, (s.ci.transfer = some d ∨ s.ci.nextWord = some d) → EvenWord d)
    ∧ (s.ci.transfer = none → s.ci.nextWord = none)
    ∧ heldValue s.ci = BitVec.ofInt 16 s.pu.demand

/-- The law of R18 and what goes with it: in UNPLANNED no frame is in hand, no session or press is held, no
timer of the plan runs and no entry is listed (R18, R25, R60, R97, R98). -/
def UnplannedQuiet (s : State) : Prop :=
  s.phc.phase = .unplanned →
    s.lau.urgent = [] ∧ s.lau.normal = [] ∧ s.lau.transmitter = none ∧ s.lau.deferral = none
      ∧ s.su.session = none ∧ s.su.press = .none
      ∧ s.pu.timer = none ∧ s.ci.loadTimer = none ∧ s.ci.loadSilent = false
      ∧ s.phc.contactTimer = none ∧ s.tm.flags = 0
      ∧ s.pt = PeerTable.reset

/-! ### The plan in force (R166) -/

/-- Every field of a plan lies in the range that R166 clamps it to. -/
def PlanInRange (p : Plan) : Prop :=
  p.periodCode ≤ 3 ∧ (2 ≤ p.kSil ∧ p.kSil ≤ 8) ∧ (2 ≤ p.kKeep ∧ p.kKeep ≤ 16)
    ∧ (5 ≤ p.contactTimeout ∧ p.contactTimeout ≤ 120) ∧ (5 ≤ p.stallLimit ∧ p.stallLimit ≤ 100)
    ∧ (∀ k : Fin 8, p.speeds[k] ≤ 6000)
    ∧ (∀ k : Fin 7, p.speeds[k.val] ≤ p.speeds[k.val + 1])
    ∧ p.thresholds[0] = 65535
    ∧ (∀ k : Fin 7, p.thresholds[k.val + 1] ≤ p.thresholds[k.val])
    ∧ (1 ≤ p.sMax ∧ p.sMax ≤ 8) ∧ (4 ≤ p.window ∧ p.window ≤ 400)
    ∧ p.creep ≤ p.speeds[0] ∧ p.approach ≤ p.speeds[7] ∧ p.retract ≤ p.speeds[7]
    ∧ p.lo < p.hi ∧ p.hi ≤ 65535 ∧ p.lo ≤ p.parked ∧ p.parked ≤ 65535 ∧ 1 ≤ p.contactLevel
    ∧ p.neighbours.length ≤ 6 ∧ (p.neighbours.map (·.node)).Nodup
    ∧ (∀ n ∈ p.neighbours, n.node ≠ p.node ∧ isMember p n.node = true)
    ∧ isMember p p.node = true

/-- A plan in force is in range, and the drive demand stays within 6,000 su (R111). -/
def PlanLaw (s : State) : Prop :=
  (∀ p, s.ps.plan = some p → PlanInRange p) ∧ s.pu.demand.natAbs ≤ 6000

/-! ### The Peer Table (R22, R31) -/

/-- An entry has the fields and the silence count that R22 gives its state. -/
def EntryLaw (kSil : Nat) (e : PeerEntry) : Prop :=
  match e.state with
  | .unlisted => e.report = none ∧ e.silence = 0 ∧ e.fresh = false
  | .expected => e.report = none ∧ e.silence = 0 ∧ e.fresh = false
  | .stranger | .live | .mismatched => e.report.isSome = true ∧ e.silence < kSil
  | .silent => e.report.isSome = true ∧ e.silence = kSil
  | .self => e.silence = 0 ∧ e.fresh = false

/-- The table under a plan: the own entry and no other is SELF, a member is neither UNLISTED nor STRANGER,
a number outside the membership is one of the two, every entry obeys R22, and the period list names no
number twice (R24, R31). -/
def TableLaw (p : Plan) (t : PeerTable) : Prop :=
  (∀ j, (t.entry j).state = .self ↔ j = p.node)
    ∧ (∀ j, j ≠ p.node →
        (isMember p j = false ↔
          ((t.entry j).state = .unlisted ∨ (t.entry j).state = .stranger)))
    ∧ (∀ j, EntryLaw p.kSil (t.entry j))
    ∧ t.periodList.Nodup

/-- The Peer Table obeys its laws under the plan in force, and is in its reset state without one (R25). -/
def PeerLaw (s : State) : Prop :=
  match s.ps.plan with
  | some p => 2 ≤ p.kSil ∧ isMember p p.node = true ∧ TableLaw p s.pt
  | none => s.pt = PeerTable.reset

/-! ### Session, press and motion (R66 to R73, R85) -/

/-- A HELD press is the press of the session held (R80). -/
def HeldAgrees (su : SessionUnit) : Prop :=
  ∀ t d p, su.press = .held t d p → su.session.map (·.token) = some t

/-- The session that a phase needs: a column on its way up or down, or waiting on the car for a start, does
so under a session of that direction and state. -/
def phaseSession : Phase → Option Session → Bool
  | .approach, some ss => ss.state == .pending && ss.dir == .up
  | .lift, some ss => ss.state == .running && ss.dir == .up
  | .lower, some ss => ss.state == .running && ss.dir == .down
  | .retract, some ss => ss.state == .running && ss.dir == .down
  | .contact, some ss => ss.state == .pending && ss.dir == .up
  | .approach, none | .lift, none | .lower, none | .retract, none | .contact, none => false
  | .halted, some ss => ss.state == .pending
  | .starting, some ss => ss.state == .pending
  | .halted, none | .starting, none => true
  | .unplanned, _ | .idle, _ | .hold, _ => true

/-- No column moves without a session that told it to. -/
def MotionLaw (s : State) : Prop :=
  phaseSession s.phc.phase s.su.session = true ∧ HeldAgrees s.su

/-! ### Runs, timers and the pace state (R46, R75, R128, R133, R146) -/

/-- The load runs: none above 255, contact and unload never both nonzero, the loss run never above the
unload run (R46). -/
def RunsLaw (ci : ColumnInterface) : Prop :=
  ci.contactRun ≤ 255 ∧ ci.unloadRun ≤ 255 ∧ ci.lossRun ≤ ci.unloadRun ∧ ci.overloadRun ≤ 255
    ∧ (ci.contactRun = 0 ∨ ci.unloadRun = 0) ∧ ci.invalidRun ≤ 255 ∧ ci.startSamples ≤ 3

/-- What the phase settles: outside LIFT and LOWER the sync state is ACQUIRE with its run at 0 (R128), the
contact timer runs only in APPROACH and CONTACT (R75), and a rest height is held only in IDLE, CONTACT
and HOLD (R146). -/
def PhaseTimers (s : State) : Prop :=
  (isPacing s.phc.phase = false → s.pu.sync = .acquire ∧ s.pu.lockRun = 0)
    ∧ (isWaitingContact s.phc.phase = false → s.phc.contactTimer = none)
    ∧ (isResting s.phc.phase = false → s.tm.restHeight = none)

/-- The counters of the pace state stay in the ranges of their views: lock run below 16, window count below
32, window sum below 2^21 (R121, R128, R187). -/
def PaceLaw (pu : PaceUnit) : Prop := pu.lockRun ≤ 15 ∧ pu.windowCount ≤ 31 ∧ pu.windowSum ≤ 2097151

/-- Flags are held only by a halted node (R152), and a TRAVEL_LIMIT side only with its flag (R138). -/
def FlagsLaw (s : State) : Prop :=
  (s.tm.flags ≠ 0 → s.tm.record.isSome = true)
    ∧ (s.tm.travelSide.isSome = true ↔ hasFlag s.tm.flags .travelLimit = true)

/-- The plan image is in canonical form: 256 bytes, each offset listed once (R158, R186). -/
def ImageLaw (s : State) : Prop := Memory.wf s.ps.image = true

/-- The adopted flag and the fingerprint go together, and an adopted node has a plan in force (R158, R162,
R169). -/
def AdoptedLaw (s : State) : Prop :=
  (s.ps.adopted = true ↔ s.ps.fingerprint.isSome = true) ∧ (s.ps.adopted = true → s.ps.plan.isSome = true)

/-- The image of an adopted plan passes every check and is the image of the plan in force (R162, R167). -/
def AdoptedImageLaw (s : State) : Prop :=
  s.ps.adopted = true →
    failingCheck s.ps.image = none ∧ s.ps.plan = some (planOf s.ps.image)
      ∧ s.ps.fingerprint = some (imageFingerprint s.ps.image)

/-! ### What the statements say of a frame on the line (R4, R12, R13) -/

/-- The Line Access Unit after the idle event of a run from node `n` (63 for a discarded run): the line is
idle, no bytes are held, `last` is `n`, and the deferral of the head frame starts at 0 (R4, R13). -/
def heardFrom (own n : NodeNum) (l : LineAccess) : LineAccess :=
  { l with
    synced := true, lineBusy := false, run := [], last := n
    deferral := (headFrame l).map (fun q => { slots := 0, needed := deferralSlots own n q }) }

/-- A lane after a composed frame that takes the place of a queued one of its kind: it joins at the tail of a
lane without one, and otherwise replaces that one in its place, with its attempt count (R9, R10). -/
def TakesPlace (lane : List Queued) (f : Frame) (lane' : List Queued) : Prop :=
  ((∀ q ∈ lane, frameKind q.frame ≠ frameKind f) → lane' = lane ++ [{ frame := f, attempts := 0 }])
    ∧ (∀ a old b, lane = a ++ old :: b → frameKind old.frame = frameKind f →
        (∀ q ∈ a ++ b, frameKind q.frame ≠ frameKind f) → lane' = a ++ { old with frame := f } :: b)

/-- The newer frame is a KEEP of the token of a START (R10). -/
def KeepOfStart (start newer : Frame) : Prop :=
  newer.sender = start.sender
    ∧ ∃ d d' q ps ps', start.body = .motion (.start d q ps) ∧ newer.body = .motion (.keep d' q ps')

/-- A lane after a collided frame, its attempt counted, has come back to its head (R16): ahead of a lane
without a frame of its kind; otherwise the newer one leaves the lane, dropped when it is a HALT or a KEEP of
the returned START, and taking over the returned frame's place and count when it is not. -/
def ComesBack (lane : List Queued) (back : Queued) (lane' : List Queued) : Prop :=
  ((∀ q ∈ lane, frameKind q.frame ≠ frameKind back.frame) → lane' = back :: lane)
    ∧ (∀ a newer b, lane = a ++ newer :: b → frameKind newer.frame = frameKind back.frame →
        (∀ q ∈ a ++ b, frameKind q.frame ≠ frameKind back.frame) →
        ((frameKind back.frame = .halt ∨ KeepOfStart back.frame newer.frame) → lane' = back :: (a ++ b))
        ∧ (frameKind back.frame ≠ .halt → ¬ KeepOfStart back.frame newer.frame →
            lane' = { back with frame := newer.frame } :: (a ++ b)))

/-- The bits of a body's bytes that its kind uses, byte by byte from offset 4; a receiver ignores the others
(R184, R185). -/
def usedBits : FrameKind → List Byte
  | .report => [0xFF, 0x3F, 0x9F] ++ List.replicate 10 0xFF ++ [0x07]
  | .motion => List.replicate 3 0xFF
  | .halt => List.replicate 4 0xFF
  | .clear => []

/-- A normal lane after a composed KEEP (R10): dropped behind a queued START of its token, and otherwise dealt
with as any composed MOTION. -/
def KeepJoins (lane : List Queued) (f : Frame) (lane' : List Queued) : Prop :=
  ((∀ q ∈ lane, ¬ KeepOfStart q.frame f) → TakesPlace lane f lane')
    ∧ (∀ a old b, lane = a ++ old :: b → KeepOfStart old.frame f →
        (∀ q ∈ a ++ b, frameKind q.frame ≠ frameKind f) → lane' = lane)

/-- The MOTION frame of the node, as composed in a state (R8). -/
def motionOf (p : Plan) (s : State) (m : Motion) : Frame :=
  { sender := p.node, epochByte := s.tm.epoch.getD 0xFF, body := .motion m }

/-- The HALT frame of a local trip of the node, as composed in a state (R148). -/
def haltOf (p : Plan) (s : State) (c : Cause) : Frame :=
  { sender := p.node, epochByte := s.tm.epoch.getD 0xFF,
    body := .halt { cause := c, lift := sampleLift s, peer := none } }

/-- The command of a frame that another node sent. -/
def commandOf (f : Frame) : Instr :=
  match f.body with
  | .report r => .report f.sender f.epochByte r
  | .motion (.start .up q p) => .startUp f.sender f.epochByte q p
  | .motion (.start .down q p) => .startDown f.sender f.epochByte q p
  | .motion (.keep .up q p) => .keepUp f.sender f.epochByte q p
  | .motion (.keep .down q p) => .keepDown f.sender f.epochByte q p
  | .motion (.finish t) => .endSession f.sender f.epochByte t
  | .halt h => .halt f.sender f.epochByte h
  | .clear => .clear f.sender f.epochByte

/-- START_UP, START_DOWN, KEEP_UP or KEEP_DOWN, by its verb and direction (R86). -/
def opening (keep : Bool) (d : Direction) (n : NodeNum) (e q : Byte) (p : Preset) : Instr :=
  match keep, d with
  | false, .up => .startUp n e q p
  | false, .down => .startDown n e q p
  | true, .up => .keepUp n e q p
  | true, .down => .keepDown n e q p

/-- The node is under the plan `p`, has seen an idle event, its transmitter is empty, and the frame comes from
another node `n`. -/
def Hears (s : State) (p : Plan) (n : NodeNum) : Prop :=
  s.ps.plan = some p ∧ s.lau.synced = true ∧ s.lau.transmitter = none ∧ n ≠ p.node

/-- The node is not halted: its record is empty and its phase another than HALTED (R137). -/
def NotHalted (s : State) : Prop := s.tm.record = none ∧ s.phc.phase ≠ .halted

/-- No switch or load condition stands that trips at the entry into a phase that is not moving: the
emergency-stop loop closed, no drive fault, NUT not made, no overload, no lost load (R141, R142). A line without a
filtered level stands at no tripping level (DESIGN CHOICE, log entry 32). -/
def NothingTrips (s : State) : Prop :=
  s.ci.levels.estop ≠ some true ∧ s.ci.levels.driveFault ≠ some true ∧ s.ci.levels.nut ≠ some true
    ∧ s.ci.overloadRun < 2 ∧ s.ci.lossRun < 3

/-- The phase that a controlled stop leads to (R73). -/
def stoppedPhase : Phase → Phase
  | .approach | .retract => .idle
  | .contact | .lift | .lower => .hold
  | .unplanned => .unplanned
  | .starting => .starting
  | .idle => .idle
  | .hold => .hold
  | .halted => .halted

/-- A zero word has gone to the drive: at once, or behind the word in transfer (R51; DESIGN CHOICE, log
entry 5). -/
def ZeroWordSent (ci ci' : ColumnInterface) : Prop :=
  (ci.transfer = none →
      ci'.transfer = some { value := 0, parity := false } ∧ ci'.nextWord = ci.nextWord)
    ∧ (∀ d, ci.transfer = some d →
      ci'.transfer = some d ∧ ci'.nextWord = some { value := 0, parity := false })

/-- The press record that a halt leaves (R94): a WAITING or HELD press is SPENT, a SPENT one stays, and without
one a held direction is SPENT without a token. -/
def PressSpent (s t : State) : Prop :=
  (∀ k d ps, (s.su.press = .waiting k d ps ∨ s.su.press = .held k d ps) →
      t.su.press = .spent (some k) d (some ps))
    ∧ (∀ k d ps, s.su.press = .spent k d ps → t.su.press = .spent k d ps)
    ∧ (s.su.press = .none → s.ci.held = none → t.su.press = .none)
    ∧ (∀ d, s.su.press = .none → s.ci.held = some d → t.su.press = .spent none d none)

/-- A WAITING press has composed the END of its token into the normal lane, and no other press composes anything
there (R85, R94). -/
def WithdrawsStart (p : Plan) (s t : State) : Prop :=
  (∀ k d ps, s.su.press = .waiting k d ps →
      TakesPlace s.lau.normal (motionOf p s (.finish k)) t.lau.normal)
    ∧ ((∀ k d ps, s.su.press ≠ .waiting k d ps) → t.lau.normal = s.lau.normal)

/-- What a controlled stop with a stop cause leaves: no session, the phase of R73 with its drive lines
negated, its demand 0 and a zero word sent, and the cause (R51, R52, R73, R74, R93). Stated of the moving
phases. -/
def StoppedWith (c : StopCause) (s t : State) : Prop :=
  t.su.session = none ∧ t.phc.phase = stoppedPhase s.phc.phase ∧ t.phc.lastStop = c
    ∧ t.ci.driveEnable = false ∧ t.ci.brakeRelease = false ∧ t.pu.demand = 0
    ∧ ZeroWordSent s.ci t.ci
    ∧ t.ci.contactHeight = s.ci.contactHeight ∧ t.ci.height = s.ci.height
    ∧ t.tm.record = s.tm.record ∧ t.tm.flags = s.tm.flags ∧ t.tm.epoch = s.tm.epoch
    ∧ t.ps = s.ps ∧ t.pending = s.pending

/-- What a session end with a stop cause leaves in a phase that is not moving (R73, R74, R75, R93, R146): CONTACT
goes to HOLD with h_c kept and its contact timer stopped, every other phase stays; the cause is recorded in CONTACT,
and in IDLE and HOLD for a session that was still PENDING; the drive is not told anything. -/
def EndedAtRest (c : StopCause) (ss : Session) (s t : State) : Prop :=
  t.su.session = none ∧ t.phc.phase = (if s.phc.phase = .contact then .hold else s.phc.phase)
    ∧ t.phc.lastStop =
        (if s.phc.phase = .contact
            ∨ ((s.phc.phase = .idle ∨ s.phc.phase = .hold) ∧ ss.state = .pending) then c
         else s.phc.lastStop)
    ∧ t.phc.contactTimer = (if s.phc.phase = .contact then none else s.phc.contactTimer)
    ∧ t.phc.startup = s.phc.startup
    ∧ t.tm = { s.tm with
        restHeight := if s.phc.phase = .contact then s.ci.height else s.tm.restHeight }
    ∧ t.ci = { s.ci with read := t.ci.read } ∧ t.pu.demand = s.pu.demand
    ∧ t.ps = s.ps ∧ t.pending = s.pending

/-- The press record after the end of a session with a token (R85, R93): a HELD press of that token is SPENT, a
WAITING one is SPENT by a conflict, and any other press stays. -/
def PressAfterEnd (c : StopCause) (ended : Token) (s t : State) : Prop :=
  (∀ k d ps, s.su.press = .held k d ps →
      t.su.press = if k = ended then .spent (some k) d (some ps) else .held k d ps)
    ∧ (∀ k d ps, s.su.press = .waiting k d ps →
      t.su.press = if c = .conflict then .spent (some k) d (some ps) else .waiting k d ps)
    ∧ (∀ k d ps, s.su.press = .spent k d ps → t.su.press = .spent k d ps)
    ∧ (s.su.press = .none → t.su.press = .none)

/-- What a session end with a stop cause leaves, in every phase (R73, R85, R93). -/
def SessionEnded (c : StopCause) (ss : Session) (s t : State) : Prop :=
  (isMoving s.phc.phase = true → StoppedWith c s t)
    ∧ (isMoving s.phc.phase = false → EndedAtRest c ss s t)
    ∧ PressAfterEnd c ss.token s t ∧ t.su.sequence = s.su.sequence

/-- The phase that a session end changes can be entered: the node is not halted and nothing trips there (R62, R73). -/
def EndGoesOn (s : State) : Prop :=
  isMoving s.phc.phase = true ∨ s.phc.phase = .contact → s.tm.record = none ∧ NothingTrips s

/-- What a halt leaves (R51, R94, R137, R139): the record, HALTED, safe drive outputs with a zero word sent, no
session, the press SPENT and HALT_ENTERED latched; contact height, epoch, sequence counter, table and plan as
they were. -/
def HaltedWith (r : HaltRecord) (s t : State) : Prop :=
  t.tm.record = some r ∧ t.phc.phase = .halted ∧ t.phc.contactTimer = none
    ∧ t.ci.driveEnable = false ∧ t.ci.brakeRelease = false ∧ t.pu.demand = 0
    ∧ ZeroWordSent s.ci t.ci
    ∧ t.su.session = none ∧ PressSpent s t ∧ t.su.sequence = s.su.sequence
    ∧ t.sp.latch.getLsbD 1 = true
    ∧ t.ci.height = s.ci.height ∧ t.ci.contactHeight = s.ci.contactHeight
    ∧ t.tm.epoch = s.tm.epoch ∧ t.ps = s.ps ∧ t.pending = s.pending

/-! ### What the statements say of peers (R37, R39, R40, R95, R102, R144, R154) -/

/-- An entry is live, not seen halted, and reports a token (R37, R39). -/
def Follows (e : PeerEntry) (tok : Token) (r : Reported) : Prop :=
  e.state = .live ∧ e.report = some r ∧ (r.halt = none ∨ e.stale = true) ∧ r.token = some tok

/-- The whole set agrees on a token (R39, R95): no stranger is heard, and every other member is live, not seen
halted, and reports the token and a phase of the list. -/
def SetAgrees (p : Plan) (t : PeerTable) (tok : Token) (phases : List Phase) : Prop :=
  (∀ j, (t.entry j).state ≠ .stranger)
    ∧ (∀ j, isMember p j = true → j ≠ p.node →
        ∃ r, Follows (t.entry j) tok r ∧ r.phase ∈ phases)

/-- An entry is live and loaded, and reports a lift (R37, R40). -/
def LoadedLift (e : PeerEntry) (lift : Int) : Prop :=
  e.state = .live ∧ ∃ r, e.report = some r ∧ r.refValid = true ∧ r.lift.toInt = lift

/-- The lift that reference adoption takes (R154): the lowest of the live loaded neighbours; when there are
none, of the live loaded peers; when there are none of those, 0. -/
def ReferenceLift (p : Plan) (t : PeerTable) (lift : Int) : Prop :=
  ((∃ n ∈ p.neighbours, ∃ x, LoadedLift (t.entry n.node) x) →
      (∃ n ∈ p.neighbours, LoadedLift (t.entry n.node) lift)
        ∧ ∀ n ∈ p.neighbours, ∀ x, LoadedLift (t.entry n.node) x → lift ≤ x)
    ∧ ((∀ n ∈ p.neighbours, ∀ x, ¬ LoadedLift (t.entry n.node) x) →
        ((∃ j x, LoadedLift (t.entry j) x) →
          (∃ j, LoadedLift (t.entry j) lift) ∧ ∀ j x, LoadedLift (t.entry j) x → lift ≤ x)
        ∧ ((∀ j x, ¬ LoadedLift (t.entry j) x) → lift = 0))

/-- A neighbour of the plan is out of tolerance at a sample (R144): it is live and loaded, it is in the period
list, and its reported lift differs from the sample's by more than its tolerance. -/
def outOfTolerance (c : ControlSample) (t : PeerTable) (n : Neighbour) : Bool :=
  (t.entry n.node).state == .live && t.periodList.contains n.node
    && (match (t.entry n.node).report with
        | some r => r.refValid && decide (n.tolerance < (c.lift.toInt - r.lift.toInt).natAbs)
        | none => false)

/-- A report leaves its entry LIVE (R26): its sender is a member heard or expected, and its fingerprint is the
node's own. -/
def LeavesLive (s : State) (n : NodeNum) (fingerprint : Word) : Prop :=
  ((s.pt.entry n).state = .expected ∨ (s.pt.entry n).state = .live ∨ (s.pt.entry n).state = .mismatched
    ∨ (s.pt.entry n).state = .silent) ∧ s.ps.fingerprint = some fingerprint

/-- A report under epoch `e` teaches, halts and clears nothing (R29, R150, R156): it does not leave its entry LIVE,
or it has no EPOCH_KNOWN; or a node not halted knows its epoch, and the report carries no halt flag or another epoch; or
a node halted here knows its epoch; or a node halted from afar hears a halt flag or its own epoch. -/
def ReportActsNot (s : State) (n : NodeNum) (e : Byte) (r : ReportBody) : Prop :=
  ¬ LeavesLive s n r.fingerprint ∨ r.epochKnown = false
    ∨ (match s.tm.record with
        | none => s.tm.epoch.isSome = true ∧ (r.halt = none ∨ s.tm.epoch ≠ some e)
        | some h => if h.remote = true then r.halt.isSome = true ∨ s.tm.epoch = some e
            else s.tm.epoch.isSome = true)

/-- The condition that a clear keeps a persisting flag for (R153). -/
def ConditionStands (s : State) : Cause → Prop
  | .estop => s.ci.levels.estop = some true
  | .overload => 2 ≤ s.ci.overloadRun
  | .loadSilent => s.ci.loadSilent = true
  | .encoderFault => 2 ≤ s.ci.invalidRun
  | .driveFault => s.ci.levels.driveFault = some true ∨ s.ci.driveNotReady = true
  | .travelLimit =>
    s.tm.travelSide = some .upper ∧ s.ci.levels.limitUp = some true
      ∨ s.tm.travelSide = some .lower ∧ s.ci.levels.limitDown = some true
  | .nutEngaged => s.ci.levels.nut = some true
  | .noReference | .loadLost | .differential | .peerSilent | .stall | .drift | .mediumFault
  | .contactTimeout | .duplicateNode => False

/-- A position read that is handed on finds nothing of its own to trip or to start (R43, R44, R64): start-up is
done, and it does not bring the invalid-read run to 2. -/
def ReadQuiet (s : State) (valid : Bool) : Prop :=
  s.phc.startup.done = true ∧ (valid = true ∨ s.ci.invalidRun ≠ 1)

/-! ### What the service line shows (R41, R187; 11_formats.md) -/

/-- The sixteen bytes of a peer view entry. -/
def ShowsEntry (e : PeerEntry) (b : Nat → Byte) : Prop :=
  (b 0).toNat % 8 = (match e.state with
      | .unlisted => 0 | .stranger => 1 | .expected => 2 | .live => 3 | .silent => 4
      | .mismatched => 5 | .self => 6)
    ∧ (b 0).getLsbD 3 = e.report.isSome ∧ (b 0).getLsbD 4 = e.stale ∧ (b 0).getLsbD 5 = e.fresh
    ∧ (b 0).toNat < 64 ∧ (b 15).toNat / 16 = min 15 e.silence ∧ (b 15).getLsbD 3 = false
    ∧ (∀ r, e.report = some r →
        (b 1).toNat = phaseCode r.phase
          ∧ (b 2).toNat = r.step.val + 1 + 16 * syncCode r.sync
          ∧ (b 3).toNat = (match r.halt with
              | some c => 128 + causeCode c
              | none => 0)
          ∧ (∀ k, r.token = some k → (b 4).toNat = k.originator.val ∧ b 5 = k.sequence)
          ∧ (r.token = none → b 4 = 0xFF ∧ b 5 = 0xFF)
          ∧ b 6 ++ b 7 = r.lift ∧ b 8 ++ b 9 = r.height ∧ b 10 ++ b 11 = r.load
          ∧ b 12 = r.epoch.getD 0xFF ∧ b 13 ++ b 14 = r.fingerprint
          ∧ (b 15).getLsbD 0 = r.refValid ∧ (b 15).getLsbD 1 = r.clamped
          ∧ (b 15).getLsbD 2 = r.epoch.isSome)
    ∧ (e.report = none →
        (∀ i, 1 ≤ i → i ≤ 14 → b i = 0) ∧ (b 15).toNat % 8 = 0)

/-- 0x500 to 0x507 of the node status block: phase, session and press, start-up, column and lines. -/
def ShowsPhase (s : State) (b : Nat → Byte) : Prop :=
  (b 0).toNat % 16 = phaseCode s.phc.phase ∧ (b 0).toNat / 16 % 8 = stopCode s.phc.lastStop
    ∧ (b 0).getLsbD 7 = s.ps.adopted
    ∧ (s.su.session = none → (b 1).toNat % 4 = 0 ∧ (b 1).toNat / 16 = 0 ∧ (b 2).toNat % 16 = 0)
    ∧ (∀ ss, s.su.session = some ss → (b 1).toNat % 4 = (if ss.state = .pending then 1 else 2)
        ∧ (b 1).getLsbD 4 = (ss.dir == .down) ∧ (b 1).toNat / 32 = ss.preset.val
        ∧ (b 2).toNat % 16 = min 15 ss.keep)
    ∧ (b 1).toNat / 4 % 4 = (match s.su.press with
        | .none => 0 | .waiting _ _ _ => 1 | .held _ _ _ => 2 | .spent _ _ _ => 3)
    ∧ (b 2).getLsbD 4 = s.phc.startup.validRead ∧ (b 2).getLsbD 5 = s.phc.startup.verdict.isSome
    ∧ (b 2).getLsbD 6 = (s.phc.startup.verdict == some true)
    ∧ (b 2).getLsbD 7 = (s.tm.travelSide == some .upper)
    ∧ (b 3).getLsbD 0 = s.ci.height.isSome ∧ (b 3).getLsbD 1 = s.ci.load.isSome
    ∧ (b 3).getLsbD 2 = s.ci.contactHeight.isSome ∧ (b 3).getLsbD 3 = (s.ci.read != .idle)
    ∧ (b 3).getLsbD 4 = s.ci.driveEnable ∧ (b 3).getLsbD 5 = s.ci.driveNotReady
    ∧ (b 3).getLsbD 6 = s.pu.clamped ∧ (b 3).getLsbD 7 = s.ci.loadTimer.isSome
    ∧ (b 4).getLsbD 0 = s.ci.loadSilent ∧ (b 4).getLsbD 1 = decide (2 ≤ s.ci.invalidRun)
    ∧ (b 4).getLsbD 2 = s.ci.inputsSettled ∧ (b 4).getLsbD 3 = s.ci.holdTimer.isSome
    ∧ (b 4).toNat / 16 % 4 = (match s.ci.held with
        | none => 0
        | some .up => 1
        | some .down => 2)
    ∧ (b 4).toNat / 64 = min 3 s.ci.startSamples
    ∧ (b 5).toNat % 4 = min 3 s.ci.contactRun ∧ (b 5).toNat / 4 % 4 = min 3 s.ci.unloadRun
    ∧ (b 5).toNat / 16 % 4 = min 3 s.ci.lossRun ∧ (b 5).toNat / 64 = min 3 s.ci.overloadRun
    ∧ (b 7).getLsbD 0 = (s.ci.levels.estop == some true)
    ∧ (b 7).getLsbD 1 = (s.ci.levels.limitUp == some true)
    ∧ (b 7).getLsbD 2 = (s.ci.levels.limitDown == some true)
    ∧ (b 7).getLsbD 3 = (s.ci.levels.nut == some true)
    ∧ (b 7).getLsbD 4 = (s.ci.levels.driveReady == some true)
    ∧ (b 7).getLsbD 5 = (s.ci.levels.driveFault == some true)
    ∧ (b 7).getLsbD 6 = (s.ci.levels.up == some true)
    ∧ (b 7).getLsbD 7 = (s.ci.levels.down == some true)
    ∧ (b 6).getLsbD 0 = (s.ci.levels.stop == some true)
    ∧ (b 6).getLsbD 1 = (s.ci.levels.resetReq == some true)
    ∧ (b 6).getLsbD 2 = (s.ci.levels.preset0 == some true)
    ∧ (b 6).getLsbD 3 = (s.ci.levels.preset1 == some true)
    ∧ (b 6).getLsbD 4 = (s.ci.levels.preset2 == some true)
    ∧ (b 6).getLsbD 5 = (s.ps.op == .store)
    ∧ (b 6).toNat / 64 = (match s.ps.storeStatus with
        | some st => st.val + 1
        | none => 0)

/-- 0x508 to 0x51F of the node status block: pace, conditions, adoption outcome and halt record. -/
def ShowsPace (s : State) (b : Nat → Byte) : Prop :=
  (b 8 ++ b 9).toNat = min 65535 s.pu.windowSum
    ∧ (∀ c, s.pu.sample = some c →
        (b 10 ++ b 11).toNat = min 65535 c.lead ∧ (b 12 ++ b 13).toNat = min 65535 c.spread)
    ∧ (s.pu.sample = none → b 10 = 0 ∧ b 11 = 0 ∧ b 12 = 0 ∧ b 13 = 0)
    ∧ b 14 ++ b 15 = s.ci.lastWord
    ∧ (b 16).toNat % 128 = min 127 s.tm.stall ∧ (b 16).getLsbD 7 = (s.tm.travelSide == some .lower)
    ∧ (b 17).toNat % 32 = min 31 s.pu.lockRun ∧ (b 18).toNat % 32 = min 31 s.pu.windowCount
    ∧ (b 18).getLsbD 7 = (s.ps.op == .load)
    ∧ (s.pu.lastWindow = none → (b 17).toNat / 32 = 0 ∧ (b 18).toNat / 32 % 4 = 0 ∧ b 19 = 0)
    ∧ (∀ w, s.pu.lastWindow = some w →
        (b 17).toNat / 32 = (match w.outcome with
            | .fell => 1 | .rose => 2 | .unchanged => 3 | .held => 4)
        ∧ (b 18).toNat / 32 % 4 = min 3 w.deduction
        ∧ (b 19).toNat = w.final.val + 1 + 16 * (w.ceiled.val + 1))
    ∧ b 20 ++ b 21 = s.tm.flags
    ∧ (b 22).toNat = (match s.ps.outcome with
        | .none => 0 | .adopted => 1 | .noMemory => 2
        | .badPlan sec check => 3 + 4 * sectionCode sec + 32 * checkCode check)
    ∧ (b 23).toNat / 64 = min 3 s.ci.invalidRun
    ∧ (s.tm.record = none → (b 23).toNat % 64 = 0 ∧ ∀ i, 24 ≤ i → i ≤ 31 → b i = 0)
    ∧ (∀ r, s.tm.record = some r → (b 23).toNat % 32 = causeCode r.cause ∧ (b 23).getLsbD 5 = r.remote
        ∧ (b 24).toNat = r.originator.val ∧ b 25 ++ b 26 = r.originatorLift ∧ b 27 ++ b 28 = r.ownLift
        ∧ (b 29).toNat = r.peer.elim 255 (·.val)
        ∧ (∀ k, r.token = some k → (b 30).toNat = k.originator.val ∧ b 31 = k.sequence)
        ∧ (r.token = none → b 30 = 0xFF ∧ b 31 = 0xFF))

/-! ### Which commands reach which state -/

/-- The commands that can run an adoption or a reset of the node: they may reach every block. -/
def reachesAll : Instr → Bool
  | .reset | .loadComplete _ | .adopt | .restart | .unknownCommandCode _ | .serviceByteReceived _ => true
  | _ => false

/-- The commands that can change the Plan Store (R158, R163, R169, R171). -/
def reachesPlanStore (c : Instr) : Bool :=
  reachesAll c || match c with
    | .inputsSettled _ | .loadNoMemory | .storeComplete _ | .store | .poke _ _ | .pokeOn _ => true
    | _ => false

/-- The commands that can change the Peer Table: REPORT, CLEAR, the expiry, the node's own REPORT and CLEAR
(R26, R31, R35, R36). -/
def reachesTable (c : Instr) : Bool :=
  reachesAll c || match c with
    | .idleEvent _ | .transmissionComplete | .report _ _ _ | .clear _ _ | .controlPeriodExpiry
    | .positionReadComplete _ _ _ _ => true
    | _ => false

/-- The commands that can change the epoch: REPORT and CLEAR (R29, R152, R156). -/
def reachesEpoch (c : Instr) : Bool :=
  reachesAll c || match c with
    | .idleEvent _ | .transmissionComplete | .report _ _ _ | .clear _ _ => true
    | _ => false

/-- The commands of the column's lines and timers, which alone change the height, the load, the runs, the
filtered levels and the timers of the Column Interface (R42 to R57). -/
def reachesColumn (c : Instr) : Bool :=
  reachesAll c || match c with
    | .controlPeriodExpiry | .positionReadComplete _ _ _ _ | .loadSample _ _ | .loadSilenceExpiry
    | .demandTransferComplete | .inputsSettled _ | .switchChange _ _ | .driveStatusChange _ _
    | .heldDirectionChange _ _ _ | .stopPress _ | .resetReqChange _ | .resetRequestHoldExpiry => true
    | _ => false

/-- The commands of the service line and the configuration memory, which alone change the parser, the
pointer, the echo, the reply, the break and the pending status (R173 to R178). -/
def reachesServiceLine (c : Instr) : Bool :=
  reachesAll c || match c with
    | .storeComplete _ | .storeReplySent | .peek _ | .poke _ _ | .peekOn | .pokeOn _ | .summary | .store
    | .framingError | .lineBreak _ | .breakEcho => true
    | _ => false

/-- The commands that can change the event mask: a write to it, or a reset (R181, R183). -/
def reachesMask (c : Instr) : Bool :=
  reachesAll c || match c with
    | .poke _ _ | .pokeOn _ => true
    | _ => false

/-- The commands at which a control computation is made: the position read (R100). -/
def reachesComputation (c : Instr) : Bool :=
  reachesAll c || match c with
    | .positionReadComplete _ _ _ _ => true
    | _ => false

/-- The commands that can change the own sequence counter: a press (R80, R81). -/
def reachesSequence (c : Instr) : Bool :=
  reachesAll c || match c with
    | .heldDirectionChange _ _ _ => true
    | _ => false

/-- The commands of the lift bus, which alone change what the receiver holds: the idle event seen, the state
of the line, the run and `last` (R1, R4, R13). -/
def reachesReceiver (c : Instr) : Bool :=
  reachesAll c || match c with
    | .idleEvent _ | .lineBecomesBusy | .deferralRunsOut | .collision _ _ | .transmissionComplete
    | .report _ _ _ | .startUp _ _ _ _ | .startDown _ _ _ _ | .keepUp _ _ _ _ | .keepDown _ _ _ _
    | .endSession _ _ _ | .halt _ _ _ | .clear _ _ => true
    | _ => false

end Sys2Proof.Safety
end

