-- ==== Sys2Proof/Certificates/Slice0/Obligations.lean ====
section
/-! DEFINITION. The statements for the provers, in the order of OBLIGATIONS.json. -/

open Sys2Proof Sys2Proof.Machine Sys2Proof.Safety

/-! ### The queue and the whole node -/

/-- A step runs the command at the front of the queue on the state with the queue's rest. -/
def Obligations.StepRunsFront : Prop :=
  ∀ (c : Instr) (rest : List Instr) (s : State), s.pending = c :: rest →
    step s = exec c (s.withPending rest)

/-- Every command answers a next state and leaves the queue to the outside; only a read that completes
without a plan uses up a free value (DESIGN CHOICE, log entry 4). The frame of every command: a command
changes the Plan Store, the Peer Table, the epoch, what the column's lines delivered, the service line, the
mask, what a computation leaves, the own sequence counter and the receiver only when it is one of those that
reach them. -/
def Obligations.CommandsKeepTheRest : Prop :=
  ∀ (c : Instr) (s : State), ∃ t, exec c s = .next t ∧ t.pending = s.pending
    ∧ (t.freeCount = s.freeCount
        ∨ (t.freeCount = s.freeCount + 1 ∧ s.ps.plan = none
            ∧ ∃ a w b f, c = .positionReadComplete a w b f))
    ∧ (reachesPlanStore c = false → t.ps = s.ps)
    ∧ (reachesTable c = false → t.pt = s.pt)
    ∧ (reachesEpoch c = false → t.tm.epoch = s.tm.epoch)
    ∧ (reachesColumn c = false → t.ci = { s.ci with
        transfer := t.ci.transfer, nextWord := t.ci.nextWord, driveEnable := t.ci.driveEnable,
        brakeRelease := t.ci.brakeRelease, driveNotReady := t.ci.driveNotReady,
        contactHeight := t.ci.contactHeight })
    ∧ (reachesServiceLine c = false → t.sp = { s.sp with latch := t.sp.latch })
    ∧ (reachesMask c = false → t.sp.mask = s.sp.mask)
    ∧ (reachesComputation c = false →
        t.pu.sample = s.pu.sample ∧ t.pu.lifting = s.pu.lifting ∧ t.pu.clamped = s.pu.clamped
          ∧ t.pu.lastWindow = s.pu.lastWindow ∧ t.tm.stall = s.tm.stall
          ∧ t.tm.prevHeight = s.tm.prevHeight)
    ∧ (reachesSequence c = false → t.su.sequence = s.su.sequence)
    ∧ (reachesReceiver c = false →
        t.lau.synced = s.lau.synced ∧ t.lau.lineBusy = s.lau.lineBusy ∧ t.lau.run = s.lau.run
          ∧ t.lau.last = s.lau.last ∧ t.lau.transmitter = s.lau.transmitter)

/-- RESET puts every block in its reset state (R19, R23, R59, R61, R97, R118, R135, R157, R159, R183), and
RESTART over an idle service line does the same, but for a LOAD or STORE in flight, which has it answered
by the BUSY byte (R175, R177). The queue and the count of free values stay (DESIGN CHOICE, log entry 22). -/
def Obligations.ResetAndRestart : Prop :=
  (∀ s : State, ∃ t, exec .reset s = .next t
      ∧ t.pending = s.pending ∧ t.freeCount = s.freeCount
      ∧ t.lau.synced = false ∧ t.lau.lineBusy = true ∧ t.lau.run = [] ∧ t.lau.last = 63
      ∧ t.lau.urgent = [] ∧ t.lau.normal = [] ∧ t.lau.transmitter = none ∧ t.lau.deferral = none
      ∧ (∀ j, t.pt.entry j =
          { state := .unlisted, report := none, silence := 0, stale := false, fresh := false })
      ∧ t.pt.periodList = []
      ∧ t.ci.read = .idle ∧ t.ci.height = none ∧ t.ci.invalidRun = 0 ∧ t.ci.load = none
      ∧ t.ci.contactRun = 0 ∧ t.ci.unloadRun = 0 ∧ t.ci.lossRun = 0 ∧ t.ci.overloadRun = 0
      ∧ t.ci.startSamples = 0 ∧ t.ci.contactHeight = none ∧ t.ci.loadTimer = none
      ∧ t.ci.loadSilent = false ∧ t.ci.driveEnable = false ∧ t.ci.brakeRelease = false
      ∧ t.ci.driveNotReady = false ∧ t.ci.levels = FilteredLevels.unsettled
      ∧ t.ci.inputsSettled = false ∧ t.ci.held = none
      ∧ t.ci.holdTimer = none
      ∧ t.phc.phase = .unplanned ∧ t.phc.lastStop = .none ∧ t.phc.contactTimer = none
      ∧ t.phc.startup = { validRead := false, verdict := none, done := false }
      ∧ t.su = { session := none, sequence := 0, press := .none }
      ∧ t.pu.timer = none ∧ t.pu.lifting = [] ∧ t.pu.demand = 0 ∧ t.pu.clamped = false
      ∧ t.pu.sample = none ∧ t.pu.step = 0 ∧ t.pu.windowSum = 0 ∧ t.pu.windowCount = 0
      ∧ t.pu.lastWindow = none ∧ t.pu.sync = .acquire ∧ t.pu.lockRun = 0
      ∧ t.tm.record = none ∧ t.tm.flags = 0 ∧ t.tm.travelSide = none ∧ t.tm.epoch = none
      ∧ t.tm.stall = 0 ∧ t.tm.prevHeight = none ∧ t.tm.restHeight = none
      ∧ (∀ a, t.ps.image.read a = 0x00) ∧ t.ps.plan = none ∧ t.ps.adopted = false
      ∧ t.ps.fingerprint = none ∧ t.ps.outcome = .none ∧ t.ps.op = .none ∧ t.ps.storeStatus = none
      ∧ t.sp.parser = [] ∧ t.sp.pointer = 0 ∧ t.sp.pendingStore = none
      ∧ t.sp.latch = 1 ∧ t.sp.mask = 1 ∧ attention t = true)
  ∧ (∀ s : State, s.sp.parser = [] → s.sp.breakHeld = false →
      (s.ps.op = .none → exec .restart s =
        .next { State.reset with pending := s.pending, freeCount := s.freeCount })
      ∧ (s.ps.op ≠ .none → exec .restart s =
        .next { s with sp := { s.sp with echo := some 0x3F, reply := [0xB5], secondRead := false } }))

/-- The laws that every step keeps hold right after reset. -/
def Obligations.LawsAtReset : Prop :=
  LanesLaw State.reset.lau ∧ LineLaw State.reset ∧ PhaseLaw State.reset ∧ UnplannedQuiet State.reset
    ∧ PlanLaw State.reset ∧ PeerLaw State.reset ∧ MotionLaw State.reset ∧ RunsLaw State.reset.ci
    ∧ PhaseTimers State.reset ∧ PaceLaw State.reset.pu ∧ FlagsLaw State.reset ∧ ImageLaw State.reset
    ∧ AdoptedLaw State.reset ∧ AdoptedImageLaw State.reset ∧ DriveWordLaw State.reset

/-! ### Frames on the line -/

/-- The frame that the transmitter sends is the frame that a receiver takes: judging the bytes of a frame
that R185 admits gives that frame, every field at every value. -/
def Obligations.FrameRoundTrip : Prop :=
  ∀ f : Frame, f.wf = true → judgeRun ((frameBytes f).map some) = some f

/-- A run is a good frame exactly when it holds no malformed byte, starts with the sync byte and the kind,
sender and epoch bytes of the frame, has the length of its kind, passes the check, and its body bytes are
those of the frame in every bit that the kind uses (R2, R3, R4, R184, R185). A run of any other bytes is
discarded, and no frame is judged to report UNPLANNED. -/
def Obligations.GoodRunIsSound : Prop :=
  ∀ (run : List BusByte) (f : Frame), judgeRun run = some f ↔
    (f.wf = true ∧ ∃ body : List Byte,
      (let covered := [kindByte (frameKind f), byteOf f.sender.val, f.epochByte] ++ body
       run = (0x9A :: covered ++ wordBytes (crc16 covered)).map some)
      ∧ body.length = (match frameKind f with
          | .report => 14
          | .motion => 3
          | .halt => 4
          | .clear => 0)
      ∧ List.zipWith (· &&& ·) body (usedBits (frameKind f)) = bodyBytes f.body)

/-- The head frame is the first of the urgent lane and then of the normal lane; its deferral is 2 slots for a
HALT or CLEAR on its first attempt and 4 + r for every other, where r = (own - last - 1) mod 64 (R12). -/
def Obligations.DeferralOfHead : Prop :=
  (∀ l : LineAccess, headFrame l = (l.urgent ++ l.normal).head?)
  ∧ (∀ (own last : NodeNum) (q : Queued),
    rank own last = (own.val + 64 - last.val - 1) % 64
      ∧ ((frameKind q.frame = .halt ∨ frameKind q.frame = .clear) → q.attempts = 0 →
          deferralSlots own last q = 2)
      ∧ ((frameKind q.frame = .halt ∨ frameKind q.frame = .clear) → q.attempts ≠ 0 →
          deferralSlots own last q = 4 + rank own last)
      ∧ ((frameKind q.frame = .report ∨ frameKind q.frame = .motion) →
          deferralSlots own last q = 4 + rank own last ∧ 4 ≤ deferralSlots own last q
            ∧ deferralSlots own last q ≤ 67))

/-- An idle event after the bytes of a whole frame acts as the command of that frame (DESIGN CHOICE, log
entry 1: the two rows stand for one event). The idle event of a discarded run sets `last` to 63, leaves the
line idle with the deferral of the head frame started, and changes nothing else (R4, R13). The first idle
event after reset judges no run, as IDLE_EVENT and as the row of a frame: it leaves `last` and makes the line idle
(R1; DEDUCED, log entry 21). -/
def Obligations.IdleEventJudgesRun : Prop :=
  (∀ (s : State) (f : Frame), f.wf = true → s.lau.synced = true → s.lau.transmitter = none →
      s.lau.run = [] →
      exec (.idleEvent ((frameBytes f).map some)) s = exec (commandOf f) s)
  ∧ (∀ (s : State) (rest : List BusByte), s.lau.transmitter = none →
      (s.lau.synced = true → s.lau.run ++ rest ≠ [] → judgeRun (s.lau.run ++ rest) = none →
        exec (.idleEvent rest) s = .next { s with lau := heardFrom (ownNode s) 63 s.lau })
      ∧ (s.lau.synced = false →
        exec (.idleEvent rest) s = .next { s with lau := heardFrom (ownNode s) s.lau.last s.lau }
          ∧ ∀ f : Frame,
            exec (commandOf f) s = .next { s with lau := heardFrom (ownNode s) s.lau.last s.lau }))

/-- LINE_BECOMES_BUSY abandons the deferral, counts no attempt and leaves the lanes (R13); DEFERRAL_RUNS_OUT
has the transmitter take the head frame, the urgent lane's first (R12, R13). -/
def Obligations.LineIsTaken : Prop :=
  ∀ s : State, s.lau.lineBusy = false →
    exec .lineBecomesBusy s =
      .next { s with lau := { s.lau with lineBusy := true, deferral := none, run := [] } }
    ∧ (s.lau.deferral.isSome = true → s.lau.transmitter = none → s.ps.plan.isSome = true →
        (∀ q rest, s.lau.urgent = q :: rest →
          exec .deferralRunsOut s = .next { s with lau := { s.lau with
            urgent := rest, transmitter := some q, deferral := none, lineBusy := true, run := [] } })
        ∧ (∀ q rest, s.lau.urgent = [] → s.lau.normal = q :: rest →
          exec .deferralRunsOut s = .next { s with lau := { s.lau with
            normal := rest, transmitter := some q, deferral := none, lineBusy := true, run := [] } }))

/-- A collision below the sixteenth: the frame goes back to the head of its own lane with one more attempt,
ahead of the frames there. Where a newer frame of its kind waits, wherever in the lane, the two are settled: a
newer HALT, and a newer KEEP of a returned START, are dropped; a newer REPORT, CLEAR, START, END or other KEEP
takes over the place at the head with the count (R15, R16).
The sixteenth collision drops the frame and trips MEDIUM_FAULT: the node halts on it, its HALT joins an urgent
lane that holds none at the tail, and a node that was halted already only gets the flag (R15, R17). -/
def Obligations.CollisionsAreCounted : Prop :=
  (∀ (s : State) (q : Queued) (i : Nat) (b : Byte) (back : BusByte),
      s.lau.transmitter = some q → (frameBytes q.frame)[i]? = some b → back ≠ some b →
      q.attempts + 1 < 16 →
      (let run := ((frameBytes q.frame).take i).map some ++ [back]
       let mine := { q with attempts := q.attempts + 1 }
       ((frameKind q.frame = .halt ∨ frameKind q.frame = .clear) → ∃ lane,
          exec (.collision i back) s = .next { s with lau := { s.lau with
            transmitter := none, run := run, urgent := lane } }
          ∧ ComesBack s.lau.urgent mine lane)
        ∧ ((frameKind q.frame = .report ∨ frameKind q.frame = .motion) → ∃ lane,
          exec (.collision i back) s = .next { s with lau := { s.lau with
            transmitter := none, run := run, normal := lane } }
          ∧ ComesBack s.lau.normal mine lane)))
  ∧ (∀ (s : State) (p : Plan) (q : Queued) (i : Nat) (b : Byte) (back : BusByte),
      s.ps.plan = some p → s.lau.transmitter = some q → (frameBytes q.frame)[i]? = some b →
      back ≠ some b → q.attempts = 15 →
      (NotHalted s → ∃ t, exec (.collision i back) s = .next t
        ∧ HaltedWith { cause := .mediumFault, originator := p.node, remote := false,
                       originatorLift := sampleLift s, ownLift := sampleLift s, peer := none,
                       token := s.su.session.map (·.token) } s t
        ∧ t.lau.transmitter = none ∧ hasFlag t.tm.flags .mediumFault = true
        ∧ ((∀ x ∈ s.lau.urgent, frameKind x.frame ≠ .halt) →
            t.lau.urgent = s.lau.urgent ++ [{ frame := haltOf p s .mediumFault, attempts := 0 }])
        ∧ WithdrawsStart p s t)
      ∧ (s.tm.record.isSome = true → exec (.collision i back) s = .next { s with
          lau := { s.lau with transmitter := none, run := ((frameBytes q.frame).take i).map some ++ [back] }
          tm := { s.tm with flags := withFlag s.tm.flags .mediumFault } }))

/-- A transmission completes: the frame leaves the transmitter and `last` is the frame's sender, which R6
calls the node's own number (DEDUCED, log entry 20); a REPORT or a HALT has no further effect, and a MOTION
or a CLEAR acts on the node as one from another node does (R6). -/
def Obligations.TransmissionActs : Prop :=
  ∀ (s : State) (q : Queued), s.lau.transmitter = some q →
    (let heard := heardFrom (ownNode s) q.frame.sender { s.lau with transmitter := none }
     ((frameKind q.frame = .report ∨ frameKind q.frame = .halt) →
        exec .transmissionComplete s = .next { s with lau := heard })
      ∧ (∀ m, q.frame.body = .motion m →
        exec .transmissionComplete s = .next (takeMotion q.frame.sender m { s with lau := heard }))
      ∧ (q.frame.body = .clear →
        exec .transmissionComplete s =
          .next (takeClearFrame q.frame.sender q.frame.epochByte { s with lau := heard })))

/-- Frames that no owner takes move the line alone, once an idle event has been seen (R1). While the node is
UNPLANNED every good frame does so (R5); under a plan a MOTION, HALT or CLEAR from outside the membership does so (R86, R149, R152).
A good frame that carries the node's own number and is not its own is a duplicate: `last` is set, the
frame is not handed on, and DUPLICATE_NODE trips (R7). -/
def Obligations.FramesNotHandedOn : Prop :=
  (∀ (s : State) (f : Frame), f.wf = true →
      s.lau.synced = true → s.lau.transmitter = none →
      (s.ps.plan = none → exec (commandOf f) s =
        .next { s with lau := heardFrom (ownNode s) f.sender s.lau })
      ∧ (∀ p, s.ps.plan = some p → f.sender ≠ p.node → isMember p f.sender = false →
        frameKind f ≠ .report → exec (commandOf f) s =
        .next { s with lau := heardFrom p.node f.sender s.lau }))
  ∧ (∀ (s : State) (p : Plan) (f : Frame), f.wf = true →
      s.lau.synced = true → s.lau.transmitter = none →
      s.ps.plan = some p → f.sender = p.node →
      (NotHalted s → ∃ t, exec (commandOf f) s = .next t
        ∧ HaltedWith { cause := .duplicateNode, originator := p.node, remote := false,
                       originatorLift := sampleLift s, ownLift := sampleLift s, peer := none,
                       token := s.su.session.map (·.token) } s t
        ∧ t.lau.last = p.node ∧ t.pt = s.pt)
      ∧ (s.tm.record.isSome = true → exec (commandOf f) s = .next { s with
          lau := heardFrom p.node p.node s.lau
          tm := { s.tm with flags := withFlag s.tm.flags .duplicateNode } }))

/-! ### The Peer Table -/

/-- A REPORT that halts, clears and teaches nothing is recorded whole in its sender's entry, which takes the
state of R26; the first one from an unlisted number latches STRANGER; nothing else changes but the line
(R26 to R28). A halt-flagged one is such a REPORT when a condition of R150 fails: it does not leave its entry LIVE,
carries no EPOCH_KNOWN or another epoch, or finds the node halted, whose record it leaves as it was (R137, R150). -/
def Obligations.ReportIsRecorded : Prop :=
  ∀ (s : State) (p : Plan) (n : NodeNum) (e : Byte) (r : ReportBody), Hears s p n → r.wf = true →
    ReportActsNot s n e r →
    ∃ t, exec (.report n e r) s = .next t
      ∧ t.lau = heardFrom p.node n s.lau
      ∧ t.pt.entry n =
          { state := match (s.pt.entry n).state with
              | .unlisted | .stranger => .stranger
              | .expected | .live | .mismatched | .silent =>
                if s.ps.fingerprint = some r.fingerprint then .live else .mismatched
              | .self => .self
            report := some
              { phase := r.phase, sync := r.sync, step := r.step, halt := r.halt, token := r.token,
                lift := r.lift, height := r.height, load := r.load,
                epoch := if r.epochKnown then some e else none, fingerprint := r.fingerprint,
                refValid := r.refValid, clamped := r.clamped }
            silence := 0, stale := false, fresh := true }
      ∧ (∀ j, j ≠ n → t.pt.entry j = s.pt.entry j) ∧ t.pt.periodList = s.pt.periodList
      ∧ t.sp.latch = (if (s.pt.entry n).state = .unlisted then s.sp.latch ||| 0x80 else s.sp.latch)
      ∧ t.sp.mask = s.sp.mask
      ∧ t.ci = s.ci ∧ t.phc = s.phc ∧ t.su = s.su ∧ t.pu = s.pu ∧ t.tm = s.tm ∧ t.ps = s.ps

/-- A REPORT that leaves its entry LIVE: at a node whose epoch is unknown and that is not halted, one with
EPOCH_KNOWN and no halt flag teaches its epoch (R29); at a node that is not halted, a halt flag under the
node's own epoch halts it, without a flag of its own (R150). -/
def Obligations.LiveReportActs : Prop :=
  ∀ (s : State) (p : Plan) (n : NodeNum) (e : Byte) (r : ReportBody), Hears s p n → r.wf = true →
    r.epochKnown = true → NotHalted s →
    ((s.pt.entry n).state = .expected ∨ (s.pt.entry n).state = .live
      ∨ (s.pt.entry n).state = .mismatched ∨ (s.pt.entry n).state = .silent) →
    s.ps.fingerprint = some r.fingerprint →
    (s.tm.epoch = none → r.halt = none → ∃ t, exec (.report n e r) s = .next t
      ∧ t.tm = { s.tm with epoch := some e } ∧ t.phc = s.phc ∧ t.su = s.su
      ∧ (t.pt.entry n).state = .live)
    ∧ (∀ c, s.tm.epoch = some e → r.halt = some c →
      s.ci.levels.estop ≠ some true → s.ci.levels.driveFault ≠ some true →
      ∃ t, exec (.report n e r) s = .next t
      ∧ HaltedWith { cause := c, originator := n, remote := true, originatorLift := r.lift,
                     ownLift := sampleLift s, peer := none, token := s.su.session.map (·.token) } s t
      ∧ t.tm.flags = s.tm.flags ∧ (t.pt.entry n).state = .live)

/-- The expiry of the control period with no session and no press: the timer re-arms for P, the period list
names the entries that had reported, every fresh marker is cleared, the silence counts rise, an entry
that reaches K_sil becomes SILENT or UNLISTED, and a position read starts (R31, R32, R42, R99). -/
def Obligations.ExpiryAgesTable : Prop :=
  ∀ (s : State) (p : Plan), s.ps.plan = some p → s.pu.timer.isSome = true → s.su.session = none →
    s.su.press = .none → isMoving s.phc.phase = false →
    ∃ t, exec .controlPeriodExpiry s = .next t
      ∧ t.pu = { s.pu with timer := some (10000 * 2 ^ p.periodCode) }
      ∧ t.ci = { s.ci with read := .inFlight }
      ∧ (∀ j, j ∈ t.pt.periodList ↔ (s.pt.entry j).fresh = true) ∧ t.pt.periodList.Nodup
      ∧ (∀ j, (t.pt.entry j).fresh = false)
      ∧ (∀ j, ((s.pt.entry j).state = .live ∨ (s.pt.entry j).state = .mismatched) →
          p.kSil ≤ (s.pt.entry j).silence + 1 →
          t.pt.entry j = { s.pt.entry j with state := .silent, silence := p.kSil, fresh := false })
      ∧ (∀ j, (s.pt.entry j).state = .stranger → p.kSil ≤ (s.pt.entry j).silence + 1 →
          t.pt.entry j =
            { state := .unlisted, report := none, silence := 0, stale := false, fresh := false })
      ∧ (∀ j, ((s.pt.entry j).state = .live ∨ (s.pt.entry j).state = .mismatched
            ∨ (s.pt.entry j).state = .stranger) → (s.pt.entry j).silence + 1 < p.kSil →
          t.pt.entry j = { s.pt.entry j with silence := (s.pt.entry j).silence + 1, fresh := false })
      ∧ (∀ j, ((s.pt.entry j).state = .unlisted ∨ (s.pt.entry j).state = .expected
            ∨ (s.pt.entry j).state = .silent ∨ (s.pt.entry j).state = .self) →
          t.pt.entry j = { s.pt.entry j with fresh := false })
      ∧ t.lau = s.lau ∧ t.phc = s.phc ∧ t.su = s.su ∧ t.tm = s.tm ∧ t.ps = s.ps ∧ t.sp = s.sp

/-- The first LIVE entry that an expiry takes to SILENT while the node moves or holds a session halts a node
that was not halted, with PEER_SILENT and that peer named (R33). The token in the record is that of the
session as it stands before the keep count of the same expiry is judged (DESIGN CHOICE, log entry 10). -/
def Obligations.SilentPeerHalts : Prop :=
  ∀ (s : State) (p : Plan) (j : NodeNum), s.ps.plan = some p → s.pu.timer.isSome = true →
    s.tm.record = none → (isMoving s.phc.phase = true ∨ s.su.session.isSome = true) →
    (s.pt.entry j).state = .live → p.kSil ≤ (s.pt.entry j).silence + 1 →
    (∀ i, i.val < j.val → (s.pt.entry i).state = .live → (s.pt.entry i).silence + 1 < p.kSil) →
    ∃ t, exec .controlPeriodExpiry s = .next t
      ∧ t.tm.record = some { cause := .peerSilent, originator := p.node, remote := false,
                             originatorLift := sampleLift s, ownLift := sampleLift s, peer := some j,
                             token := s.su.session.map (·.token) }
      ∧ t.phc.phase = .halted ∧ t.su.session = none ∧ t.ci.driveEnable = false
      ∧ t.ci.brakeRelease = false ∧ t.pu.demand = 0 ∧ (t.pt.entry j).state = .silent
      ∧ t.ci.read = .inFlight ∧ ZeroWordSent s.ci t.ci ∧ PressSpent s t
      ∧ hasFlag t.tm.flags .peerSilent = true

/-- An expiry advances the keep count of a session by 1 below K_keep, in every phase, and a HELD press composes
its KEEP, which joins the normal lane, replaces the MOTION there, or is dropped behind a START of its token, in
every phase but UNPLANNED, STARTING and HALTED; a press that is not the session's HELD one composes nothing (R10,
R82, R92). A session whose count reaches K_keep at an expiry ends with KEEP_LOST, in any phase: a moving column
stops, CONTACT goes to HOLD with h_c kept, IDLE and HOLD stay, and STARTING and HALTED stay and record no cause; a
HELD press is SPENT (R73, R74, R92, R93). A WAITING press that finds no session, of itself or after that end, composes
its KEEP (R82). The keep count is judged before the KEEP is composed, and after the Peer Table has aged (DESIGN
CHOICE, log entry 10). -/
def Obligations.KeepCountDecides : Prop :=
  (∀ (s : State) (p : Plan) (ss : Session), s.ps.plan = some p → s.pu.timer.isSome = true →
      s.su.session = some ss → ss.keep + 1 < p.kKeep → fallingSilent p.kSil s.pt = [] →
      ∃ t, exec .controlPeriodExpiry s = .next t
        ∧ t.su = { s.su with session := some { ss with keep := ss.keep + 1 } }
        ∧ (isDeaf s.phc.phase = true ∨ (∀ d ps, s.su.press ≠ .held ss.token d ps) → t.lau = s.lau)
        ∧ (∀ d ps, isDeaf s.phc.phase = false → s.su.press = .held ss.token d ps →
            KeepJoins s.lau.normal (motionOf p s (.keep d ss.token.sequence ps)) t.lau.normal
            ∧ t.lau.urgent = s.lau.urgent ∧ t.lau.transmitter = s.lau.transmitter)
        ∧ t.phc = s.phc ∧ t.tm = s.tm ∧ t.ps = s.ps ∧ t.sp = s.sp)
  ∧ (∀ (s : State) (p : Plan) (ss : Session), s.ps.plan = some p → s.pu.timer.isSome = true →
      s.su.session = some ss → p.kKeep ≤ ss.keep + 1 → EndGoesOn s → fallingSilent p.kSil s.pt = [] →
      ∃ t, exec .controlPeriodExpiry s = .next t ∧ SessionEnded .keepLost ss s t
        ∧ (isDeaf s.phc.phase = true ∨ (∀ k d ps, s.su.press ≠ .waiting k d ps) → t.lau = s.lau)
        ∧ (∀ k d ps, isDeaf s.phc.phase = false → s.su.press = .waiting k d ps →
            KeepJoins s.lau.normal (motionOf p s (.keep d k.sequence ps)) t.lau.normal
            ∧ t.lau.urgent = s.lau.urgent ∧ t.lau.transmitter = s.lau.transmitter))
  ∧ (∀ (s : State) (p : Plan), s.ps.plan = some p → s.pu.timer.isSome = true →
      s.su.session = none → fallingSilent p.kSil s.pt = [] →
      ∃ t, exec .controlPeriodExpiry s = .next t ∧ t.su = s.su
        ∧ (isDeaf s.phc.phase = true ∨ (∀ k d ps, s.su.press ≠ .waiting k d ps) → t.lau = s.lau)
        ∧ (∀ k d ps, isDeaf s.phc.phase = false → s.su.press = .waiting k d ps →
            KeepJoins s.lau.normal (motionOf p s (.keep d k.sequence ps)) t.lau.normal
            ∧ t.lau.urgent = s.lau.urgent ∧ t.lau.transmitter = s.lau.transmitter)
        ∧ t.phc = s.phc ∧ t.tm = s.tm ∧ t.ps = s.ps ∧ t.sp = s.sp)

/-! ### Sessions -/

/-- A START or KEEP from a member that finds no session is accepted, PENDING with keep count 0, and moves no
phase in STARTING and HALTED, and for DOWN in IDLE and HOLD (R66, R67, R87).
A START or KEEP with the record's token and direction renews the session: its keep count becomes 0, and
nothing else changes but the line (R88).
The node's own START or KEEP, complete on the line with no session held and its press WAITING for the token, opens
the session in the same way and makes the press HELD, in IDLE, HOLD, STARTING and HALTED (R6, R85 to R87). A line
without a filtered level trips nothing (DESIGN CHOICE, log entry 32). -/
def Obligations.OpeningIsTaken : Prop :=
  (∀ (s : State) (p : Plan) (k : Bool) (d : Direction) (n : NodeNum) (e q : Byte) (ps : Preset),
      Hears s p n → isMember p n = true → s.su.session = none →
      (∀ t d' ps', s.su.press = .waiting t d' ps' → t ≠ ⟨n, q⟩) →
      ((s.phc.phase = .starting ∨ s.phc.phase = .halted)
        ∨ (d = .down ∧ (s.phc.phase = .idle ∨ s.phc.phase = .hold))) →
      exec (opening k d n e q ps) s = .next { s with
        lau := heardFrom p.node n s.lau
        su := { s.su with
          session := some
            { state := .pending, token := ⟨n, q⟩, dir := d, preset := ps, keep := 0 } } })
  ∧ (∀ (s : State) (p : Plan) (k : Bool) (ss : Session) (n : NodeNum) (e : Byte) (ps : Preset),
      Hears s p n → isMember p n = true → s.su.session = some ss → ss.token.originator = n →
      exec (opening k ss.dir n e ss.token.sequence ps) s = .next { s with
        lau := heardFrom p.node n s.lau, su := { s.su with session := some { ss with keep := 0 } } })
  ∧ (∀ (s : State) (p : Plan) (f : Queued) (d : Direction) (q : Byte) (ps : Preset) (d' : Direction)
      (ps' : Preset),
      s.ps.plan = some p → isMember p p.node = true → s.lau.transmitter = some f →
      f.frame.sender = p.node →
      (f.frame.body = .motion (.start d q ps) ∨ f.frame.body = .motion (.keep d q ps)) →
      s.su.session = none → s.su.press = .waiting ⟨p.node, q⟩ d' ps' →
      ((s.phc.phase = .starting ∨ s.phc.phase = .halted)
        ∨ (d = .down ∧ (s.phc.phase = .idle ∨ s.phc.phase = .hold))
        ∨ (d = .up ∧ (s.phc.phase = .idle ∧ s.ps.adopted = true ∨ s.phc.phase = .hold)
          ∧ s.tm.record = none ∧ NothingTrips s ∧ s.ci.levels.limitUp ≠ some true
          ∧ s.ci.levels.driveReady ≠ some false)) →
      ∃ t, exec .transmissionComplete s = .next t
        ∧ t.su = { s.su with
            session := some
              { state := .pending, token := ⟨p.node, q⟩, dir := d, preset := ps, keep := 0 }
            press := .held ⟨p.node, q⟩ d' ps' }
        ∧ t.phc.phase = (if d = .up ∧ s.phc.phase = .idle then .approach
            else if d = .up ∧ s.phc.phase = .hold then .contact else s.phc.phase)
        ∧ t.lau = heardFrom p.node p.node { s.lau with transmitter := none }
        ∧ t.pt = s.pt ∧ t.ps = s.ps ∧ t.tm.record = s.tm.record ∧ t.tm.flags = s.tm.flags)

/-- An accepted UP session takes the column from IDLE to APPROACH, with the drive lines asserted and the
contact timer started, or from HOLD to CONTACT with h_c kept (R52, R66, R75). DRIVE_READY without a filtered
level is not low (DESIGN CHOICE, log entry 32).
A column entering a moving phase with DRIVE_READY low never asserts its drive lines: the latch is set and
DRIVE_FAULT halts it (R53). -/
def Obligations.OpeningUpStartsColumn : Prop :=
  (∀ (s : State) (p : Plan) (k : Bool) (n : NodeNum) (e q : Byte) (ps : Preset),
      Hears s p n → isMember p n = true → s.su.session = none → s.tm.record = none →
      NothingTrips s → s.ci.levels.limitUp ≠ some true → s.ci.levels.driveReady ≠ some false →
      (s.phc.phase = .idle ∧ s.ps.adopted = true ∨ s.phc.phase = .hold) →
      ∃ t, exec (opening k .up n e q ps) s = .next t
        ∧ t.su.session = some
            { state := .pending, token := ⟨n, q⟩, dir := .up, preset := ps, keep := 0 }
        ∧ t.phc.phase = (if s.phc.phase = .idle then .approach else .contact)
        ∧ t.phc.contactTimer = some (p.contactTimeout * 1000000)
        ∧ t.ci.driveEnable = (if s.phc.phase = .idle then true else s.ci.driveEnable)
        ∧ t.ci.brakeRelease = (if s.phc.phase = .idle then true else s.ci.brakeRelease)
        ∧ t.ci.contactHeight = s.ci.contactHeight ∧ t.ci.transfer = s.ci.transfer
        ∧ t.pu = s.pu ∧ t.sp.latch = s.sp.latch ||| 0x08
        ∧ t.tm.record = none ∧ t.tm.flags = s.tm.flags ∧ t.pt = s.pt ∧ t.ps = s.ps)
  ∧ (∀ (s : State) (p : Plan) (k : Bool) (n : NodeNum) (e q : Byte) (ps : Preset),
      Hears s p n → isMember p n = true → s.su.session = none → s.tm.record = none →
      s.phc.phase = .idle → s.ps.adopted = true → s.ci.levels.driveReady = some false →
      ∃ t, exec (opening k .up n e q ps) s = .next t
        ∧ HaltedWith { cause := .driveFault, originator := p.node, remote := false,
                       originatorLift := sampleLift s, ownLift := sampleLift s, peer := none,
                       token := some ⟨n, q⟩ } s t
        ∧ t.ci.driveNotReady = true ∧ hasFlag t.tm.flags .driveFault = true)

/-- A START or KEEP of another originator, or of the record's token with the other direction, is a conflict, in
every phase: the session ends with CONFLICT, a moving column stops, CONTACT goes to HOLD, and the frame is not
accepted; a HELD press is SPENT, and a WAITING one is SPENT and composes its END (R73, R85, R88, R90, R93).
A START or KEEP of the same originator with another sequence replaces the session: it ends with RELEASED, the phase
and the press follow that end, and then the new one is accepted over the empty record and moves the phase that the
end has left; the contact timer starts afresh (R66, R73, R75, R89). -/
def Obligations.OtherTokenEndsSession : Prop :=
  (∀ (s : State) (p : Plan) (k : Bool) (d : Direction) (ss : Session) (n : NodeNum) (e q : Byte)
      (ps : Preset),
      Hears s p n → isMember p n = true → s.su.session = some ss →
      (ss.token.originator ≠ n ∨ (ss.token = ⟨n, q⟩ ∧ ss.dir ≠ d)) → EndGoesOn s →
      ∃ t, exec (opening k d n e q ps) s = .next t ∧ SessionEnded .conflict ss s t
        ∧ WithdrawsStart p s t ∧ t.lau.urgent = s.lau.urgent ∧ t.lau.last = n
        ∧ t.lau.transmitter = none ∧ t.lau.lineBusy = false
        ∧ ((∀ t d' ps', s.su.press ≠ .waiting t d' ps') → t.lau = heardFrom p.node n s.lau)
        ∧ t.pt = s.pt)
  ∧ (∀ (s : State) (p : Plan) (k : Bool) (d : Direction) (ss : Session) (n : NodeNum) (e q : Byte)
      (ps : Preset),
      Hears s p n → isMember p n = true → s.su.session = some ss → ss.token.originator = n →
      ss.token.sequence ≠ q → EndGoesOn s →
      (d = .up → (stoppedPhase s.phc.phase = .idle ∨ stoppedPhase s.phc.phase = .hold) →
        s.tm.record = none ∧ NothingTrips s) →
      (d = .up → stoppedPhase s.phc.phase = .idle →
        s.ci.levels.limitUp ≠ some true ∧ s.ci.levels.driveReady ≠ some false) →
      (∀ t d' ps', s.su.press = .waiting t d' ps' → t ≠ ⟨n, q⟩) →
      ∃ t, exec (opening k d n e q ps) s = .next t
        ∧ t.su.session = some { state := .pending, token := ⟨n, q⟩, dir := d, preset := ps, keep := 0 }
        ∧ PressAfterEnd .released ss.token s t ∧ t.su.sequence = s.su.sequence
        ∧ t.phc.phase = (if d = .up ∧ stoppedPhase s.phc.phase = .hold then .contact
            else if d = .up ∧ stoppedPhase s.phc.phase = .idle ∧ s.ps.adopted = true then .approach
            else stoppedPhase s.phc.phase)
        ∧ t.phc.lastStop =
            (if isMoving s.phc.phase = true ∨ s.phc.phase = .contact
                ∨ ((s.phc.phase = .idle ∨ s.phc.phase = .hold) ∧ ss.state = .pending) then .released
             else s.phc.lastStop)
        ∧ (t.phc.phase = .approach ∨ t.phc.phase = .contact →
            t.phc.contactTimer = some (p.contactTimeout * 1000000))
        ∧ t.ci.driveEnable = (if t.phc.phase = .approach then true
            else if isMoving s.phc.phase = true then false else s.ci.driveEnable)
        ∧ t.ci.brakeRelease = (if t.phc.phase = .approach then true
            else if isMoving s.phc.phase = true then false else s.ci.brakeRelease)
        ∧ (isMoving s.phc.phase = true → t.pu.demand = 0 ∧ ZeroWordSent s.ci t.ci)
        ∧ t.ci.contactHeight = s.ci.contactHeight ∧ t.tm.record = s.tm.record
        ∧ t.tm.flags = s.tm.flags ∧ t.lau = heardFrom p.node n s.lau ∧ t.pt = s.pt)

/-- An END with the record's token ends the session, with RELEASED from the originator and STOPPED from any
other member; it stops a moving column, takes CONTACT to HOLD with h_c kept, leaves every other phase, and makes a
HELD press of the token SPENT; an END with another token, or with no session held, is ignored (R73, R74, R91,
R93). -/
def Obligations.EndStops : Prop :=
  ∀ (s : State) (p : Plan) (n : NodeNum) (e : Byte) (k : Token), Hears s p n →
    isMember p n = true →
    (∀ ss, s.su.session = some ss → ss.token = k →
      ∃ t, exec (.endSession n e k) s = .next t ∧ t.su.session = none
        ∧ t.phc.lastStop = (if endIsRecorded s.phc.phase ss.state then
            (if n = k.originator then .released else .stopped) else s.phc.lastStop))
    ∧ (∀ ss, s.su.session = some ss → ss.token = k → EndGoesOn s →
      ∃ t, exec (.endSession n e k) s = .next t
        ∧ SessionEnded (if n = k.originator then .released else .stopped) ss s t
        ∧ t.lau = heardFrom p.node n s.lau ∧ t.pt = s.pt)
    ∧ ((∀ ss, s.su.session = some ss → ss.token ≠ k) →
      exec (.endSession n e k) s = .next { s with lau := heardFrom p.node n s.lau })

/-! ### Halts and clears -/

/-- A HALT from a member halts a node that is not halted, with a remote record of the frame's fields, no flag
and no HALT of its own; its press is SPENT, and a WAITING press composes its END; a halted node ignores the
frame (R85, R94, R149). -/
def Obligations.HaltFrameHalts : Prop :=
  ∀ (s : State) (p : Plan) (n : NodeNum) (e : Byte) (h : HaltBody), Hears s p n →
    isMember p n = true →
    (NotHalted s → s.ci.levels.estop ≠ some true → s.ci.levels.driveFault ≠ some true →
      ∃ t, exec (.halt n e h) s = .next t
      ∧ HaltedWith { cause := h.cause, originator := n, remote := true, originatorLift := h.lift,
                     ownLift := sampleLift s, peer := h.peer,
                     token := s.su.session.map (·.token) } s t
      ∧ t.tm.flags = s.tm.flags ∧ t.pt = s.pt
      ∧ WithdrawsStart p s t ∧ t.lau.urgent = s.lau.urgent ∧ t.lau.last = n
      ∧ t.lau.transmitter = none ∧ t.lau.lineBusy = false
      ∧ ((∀ k d ps, s.su.press ≠ .waiting k d ps) → t.lau = heardFrom p.node n s.lau))
    ∧ (s.tm.record.isSome = true →
      exec (.halt n e h) s = .next { s with lau := heardFrom p.node n s.lau })

/-- A local trip of a node that is not halted (R139): the emergency-stop loop opens, the contact timer
expires, or the load falls silent. The record is local, the cause's flag is set, the press is SPENT with the
END of a WAITING one composed, and with an empty urgent lane the HALT with cause, lift and epoch waits alone
in it.
A local trip that finds the node halted sets the cause's flag and no more: the record, the lanes and the
latch stay as they were (R140).
The checks at the control sample of a node that is not halted (R143 to R146). The stall counter rises at a
nonzero demand with an unchanged height and else is 0, and the height is kept for the next sample. The first
check that holds halts the node: DIFFERENTIAL in a loaded phase, naming the first neighbour in the plan's
order that is out of tolerance; else STALL at the plan's limit; else DRIFT, the height further from the rest
height than the tolerance in IDLE, CONTACT or HOLD, which no sample is that has just entered its phase. Each
one that holds sets its flag; when none holds, no check trips. At a halted node no check trips, and the
counter is 0. -/
def Obligations.LocalTrip : Prop :=
  (∀ (s : State) (p : Plan) (c : Instr) (cause : Cause), s.ps.plan = some p → NotHalted s →
      s.phc.phase ≠ .unplanned → s.lau.urgent = [] →
      ((c = .switchChange .estop true ∧ cause = .estop ∧ s.ci.levels.estop = some false)
        ∨ (c = .contactTimeout ∧ cause = .contactTimeout ∧ s.phc.contactTimer.isSome = true)
        ∨ (c = .loadSilenceExpiry ∧ cause = .loadSilent ∧ s.ci.loadTimer.isSome = true)) →
      ∃ t, exec c s = .next t
        ∧ HaltedWith { cause := cause, originator := p.node, remote := false,
                       originatorLift := sampleLift s, ownLift := sampleLift s, peer := none,
                       token := s.su.session.map (·.token) } s t
        ∧ hasFlag t.tm.flags cause = true
        ∧ t.lau.urgent = [{ frame := { sender := p.node, epochByte := s.tm.epoch.getD 0xFF,
                                       body := .halt { cause := cause, lift := sampleLift s,
                                                       peer := none } },
                            attempts := 0 }]
        ∧ WithdrawsStart p s t ∧ t.pt = s.pt)
  ∧ (∀ (s : State) (p : Plan) (c : Instr) (cause : Cause), s.ps.plan = some p →
      s.tm.record.isSome = true → s.phc.phase ≠ .unplanned →
      ((c = .switchChange .estop true ∧ cause = .estop ∧ s.ci.levels.estop = some false)
        ∨ (c = .contactTimeout ∧ cause = .contactTimeout ∧ s.phc.contactTimer.isSome = true)
        ∨ (c = .loadSilenceExpiry ∧ cause = .loadSilent ∧ s.ci.loadTimer.isSome = true)) →
      ∃ t, exec c s = .next t
        ∧ t.tm = { s.tm with flags := withFlag s.tm.flags cause }
        ∧ t.lau = s.lau ∧ t.sp = s.sp ∧ t.su = s.su ∧ t.pu = s.pu ∧ t.pt = s.pt ∧ t.ps = s.ps
        ∧ t.phc.phase = s.phc.phase)
  ∧ (∀ (s : State) (p : Plan) (a : Bool) (w : Word) (b f : Bool), s.ps.plan = some p →
      PlanInRange p → s.ci.read = .inFlight → NotHalted s → NothingTrips s →
      s.ci.levels.limitUp ≠ some true → s.ci.levels.limitDown ≠ some true →
      s.ci.levels.driveReady ≠ some false → ReadQuiet s (readValid a w b f) →
      ∃ t c, exec (.positionReadComplete a w b f) s = .next t ∧ t.pu.sample = some c
        ∧ c.height = t.ci.height ∧ t.tm.prevHeight = c.height
        ∧ t.tm.stall = (if c.demand ≠ 0 ∧ c.height.isSome ∧ c.height = s.tm.prevHeight then
            min 255 (s.tm.stall + 1) else 0)
        ∧ (let peer : Option NodeNum := if isLoaded c.phase = true then
             (p.neighbours.find? (outOfTolerance c t.pt)).map (·.node) else none
           let stalled : Prop := p.stallLimit ≤ t.tm.stall
           let drifted : Prop := (c.phase = .idle ∨ c.phase = .contact ∨ c.phase = .hold)
             ∧ c.phase = s.phc.phase
             ∧ ∃ h ∈ c.height, ∃ r ∈ s.tm.restHeight, p.drift < ((h.toNat : Int) - r.toNat).natAbs
           let trip := fun (cause : Cause) =>
             t.tm.record = some { cause := cause, originator := p.node, remote := false,
                                  originatorLift := c.lift, ownLift := c.lift,
                                  peer := if cause = .differential then peer else none,
                                  token := s.su.session.map (·.token) }
             ∧ t.phc.phase = .halted ∧ t.su.session = none ∧ t.pu.demand = 0
             ∧ t.ci.driveEnable = false ∧ t.ci.brakeRelease = false
           (peer.isSome = true → trip .differential ∧ hasFlag t.tm.flags .differential = true)
           ∧ (stalled → hasFlag t.tm.flags .stall = true ∧ (peer = none → trip .stall))
           ∧ (drifted → hasFlag t.tm.flags .drift = true ∧ (peer = none → ¬ stalled → trip .drift))
           ∧ (peer = none → ¬ stalled → ¬ drifted → t.tm.record = none ∧ t.tm.flags = s.tm.flags)))
  ∧ (∀ (s : State) (p : Plan) (a : Bool) (w : Word) (b f : Bool), s.ps.plan = some p →
      PlanInRange p → s.ci.read = .inFlight → s.phc.phase = .halted → s.tm.record.isSome = true →
      ReadQuiet s (readValid a w b f) →
      ∃ t, exec (.positionReadComplete a w b f) s = .next t ∧ t.tm.record = s.tm.record
        ∧ t.phc.phase = .halted ∧ t.tm.flags = s.tm.flags ∧ t.tm.stall = 0
        ∧ t.tm.prevHeight = t.ci.height ∧ t.pu.demand = 0)

/-- A CLEAR taken by a node that is not halted and holds no flag gives it the epoch and marks every
entry's halt news as out of date; its motion and session go on (R35, R152).
A CLEAR ends a halt whose flags are all momentary or have lost their condition, and one that left no flag: the
flags and the side are gone, the record is emptied, HALT_CLEARED latches, and the node enters STARTING when
start-up is not done, HOLD when its column is loaded, and IDLE otherwise (R78, R152, R153). -/
def Obligations.ClearIsTaken : Prop :=
  (∀ (s : State) (p : Plan) (n : NodeNum) (e : Byte), Hears s p n → isMember p n = true →
      NotHalted s → s.tm.flags = 0 → s.tm.travelSide = none →
      ∃ t, exec (.clear n e) s = .next t
        ∧ t.tm = { s.tm with epoch := some e } ∧ t.lau = heardFrom p.node n s.lau
        ∧ (∀ j, t.pt.entry j = { s.pt.entry j with stale := true })
        ∧ t.pt.periodList = s.pt.periodList
        ∧ t.ci = s.ci ∧ t.phc = s.phc ∧ t.su = s.su ∧ t.pu = s.pu ∧ t.ps = s.ps ∧ t.sp = s.sp)
  ∧ (∀ (s : State) (p : Plan) (n : NodeNum) (e : Byte), Hears s p n → isMember p n = true →
      s.phc.phase = .halted → s.tm.record.isSome = true →
      (∀ c, hasFlag s.tm.flags c = true → ¬ ConditionStands s c) → s.su.session = none →
      NothingTrips s → s.ci.contactHeight.isSome = true →
      ∃ t, exec (.clear n e) s = .next t
        ∧ t.tm.record = none ∧ t.tm.epoch = some e ∧ t.tm.flags = 0 ∧ t.tm.travelSide = none
        ∧ t.phc.phase = (if s.phc.startup.done = false then .starting
            else if 3 ≤ s.ci.contactRun then .hold else .idle)
        ∧ t.sp.latch.getLsbD 2 = true ∧ t.ci.contactHeight = s.ci.contactHeight
        ∧ t.su = s.su ∧ t.ps = s.ps ∧ (∀ j, t.pt.entry j = { s.pt.entry j with stale := true }))

/-- A CLEAR that finds a flag whose condition still holds halts the node again, here on an emergency-stop
loop that is still open: a local record, HALTED, and a fresh HALT with the new epoch (R152, R153). Flags of
momentary causes are gone.
NO_REFERENCE is resolved at a clear of a loaded column with h_c invalid, whether its flag is set or not: the
adopted lift is the lowest of the live loaded neighbours, else of the live loaded peers, else 0; h_c takes h
less that lift, clamped; the flag is cleared and the column enters HOLD (R78, R154). -/
def Obligations.ClearReevaluates : Prop :=
  (∀ (s : State) (p : Plan) (n : NodeNum) (e : Byte), Hears s p n → isMember p n = true →
      s.phc.phase = .halted → s.tm.record.isSome = true → hasFlag s.tm.flags .estop = true →
      s.ci.levels.estop = some true → s.lau.urgent = [] →
      ∃ t, exec (.clear n e) s = .next t
        ∧ t.phc.phase = .halted ∧ t.tm.epoch = some e
        ∧ t.tm.record = some { cause := .estop, originator := p.node, remote := false,
                               originatorLift := sampleLift s, ownLift := sampleLift s, peer := none,
                               token := s.su.session.map (·.token) }
        ∧ (∀ c, hasFlag t.tm.flags c = true → isPersisting c = true ∧ hasFlag s.tm.flags c = true)
        ∧ hasFlag t.tm.flags .estop = true
        ∧ t.lau.urgent = [{ frame := { sender := p.node, epochByte := e,
                                       body := .halt { cause := .estop, lift := sampleLift s,
                                                       peer := none } },
                            attempts := 0 }]
        ∧ t.su.session = none ∧ t.sp.latch.getLsbD 1 = true)
  ∧ (∀ (s : State) (p : Plan) (n : NodeNum) (e : Byte) (h : Word), Hears s p n →
      isMember p n = true → s.phc.phase = .halted → s.tm.record.isSome = true →
      (s.tm.flags = causeBit .noReference ∨ s.tm.flags = 0) → s.su.session = none →
      s.phc.startup.done = true → NothingTrips s → 3 ≤ s.ci.contactRun → s.ci.contactHeight = none →
      s.ci.height = some h →
      ∃ t lift, exec (.clear n e) s = .next t ∧ ReferenceLift p s.pt lift
        ∧ t.ci.contactHeight.map (fun hc => (hc.toNat : Int)) =
            some (max 0 (min 65535 ((h.toNat : Int) - lift)))
        ∧ t.tm.flags = 0 ∧ t.tm.record = none ∧ t.phc.phase = .hold
        ∧ t.tm.restHeight = some h ∧ t.tm.epoch = some e)

/-- A REPORT from a LIVE peer that knows another epoch and is not halted ends a remote halt without flags by
catch-up; a local halt is left as it is (R156). -/
def Obligations.CatchUpEndsRemoteHalt : Prop :=
  ∀ (s : State) (p : Plan) (n : NodeNum) (e : Byte) (r : ReportBody) (hr : HaltRecord), Hears s p n →
    r.wf = true → r.epochKnown = true → r.halt = none → s.tm.record = some hr →
    s.phc.phase = .halted → (s.pt.entry n).state = .live → s.ps.fingerprint = some r.fingerprint →
    s.tm.epoch.isSome = true → s.tm.epoch ≠ some e →
    (hr.remote = true → s.tm.flags = 0 → s.su.session = none → NothingTrips s →
      s.ci.contactHeight.isSome = true → s.phc.startup.done = true → s.ci.contactRun < 3 →
      ∃ t, exec (.report n e r) s = .next t
        ∧ t.tm.record = none ∧ t.tm.epoch = some e ∧ t.phc.phase = .idle
        ∧ t.sp.latch.getLsbD 2 = true)
    ∧ (hr.remote = false → ∃ t, exec (.report n e r) s = .next t
        ∧ t.tm = s.tm ∧ t.phc = s.phc ∧ t.su = s.su)

/-- The halt record keeps its content: of the commands that take no clear, no catch-up, no reset and no plan,
none changes a record that holds a halt: not a second failure, not a HALT, and not a REPORT with its halt flag set,
from any sender and under any epoch (R137, R140, R149, R150). Stated of the nodes whose phase agrees with the
record. -/
def Obligations.HaltRecordKept : Prop :=
  ∀ (c : Instr) (s t : State) (r : HaltRecord), HaltAgrees s → s.tm.record = some r →
    c ≠ .reset → c ≠ .restart → c ≠ .transmissionComplete → (∀ x, c ≠ .idleEvent x) →
    (∀ n e b, c = .report n e b → b.halt.isSome = true) → (∀ n e, c ≠ .clear n e) →
    (∀ x, c ≠ .loadComplete x) → (∀ x, c ≠ .serviceByteReceived x) → (∀ x, c ≠ .unknownCommandCode x) →
    exec c s = .next t → t.tm.record = some r ∧ t.phc.phase = .halted

/-! ### Position read, demand and pace -/

/-- A completed read under a plan: a valid one sets the height to the position word plus the datum offset,
clamped to 0 to 65,535, and the invalid-read run to 0; an invalid one keeps the height and adds 1 to the
run, to at most 255 (R43, R44). The load, the levels and the timers of the column stay as they were.
The read that brings the run to 2 halts a node that is not halted on ENCODER_FAULT, and the computation
finds it halted; no other read sets that flag (R44, R147).
A read that was in flight at the entry into UNPLANNED completes and is not handed on: with no plan in force
its height is the word plus a free offset, whatever that is (R42; DESIGN CHOICE, log entry 4). An invalid
one adds to the run alone. -/
def Obligations.ReadCompletes : Prop :=
  (∀ (s : State) (p : Plan) (a : Bool) (w : Word) (b f : Bool), s.ps.plan = some p →
      s.ci.read = .inFlight →
      ∃ t, exec (.positionReadComplete a w b f) s = .next t ∧ t.ci.read = .idle
        ∧ (a = false → b = evenParity w → f = true →
            t.ci.invalidRun = 0
            ∧ t.ci.height.map (fun h => (h.toNat : Int)) =
                some (max 0 (min 65535 ((w.toNat : Int) + p.datum.toInt))))
        ∧ ((a = true ∨ b ≠ evenParity w ∨ f = false) →
            t.ci.height = s.ci.height ∧ t.ci.invalidRun = min 255 (s.ci.invalidRun + 1))
        ∧ t.ci.load = s.ci.load ∧ t.ci.levels = s.ci.levels ∧ t.ci.loadTimer = s.ci.loadTimer
        ∧ t.ci.contactRun = s.ci.contactRun ∧ t.ps = s.ps
        ∧ (readValid a w b f = false → s.ci.invalidRun = 1 →
            hasFlag t.tm.flags .encoderFault = true
            ∧ (NotHalted s →
                t.tm.record = some { cause := .encoderFault, originator := p.node, remote := false,
                                     originatorLift := sampleLift s, ownLift := sampleLift s,
                                     peer := none, token := s.su.session.map (·.token) }
                ∧ t.phc.phase = .halted ∧ t.su.session = none ∧ PressSpent s t
                ∧ t.ci.driveEnable = false ∧ t.ci.brakeRelease = false ∧ t.pu.demand = 0
                ∧ t.pu.sample.map (fun c => (c.phase, c.demand)) = some (.halted, 0)))
        ∧ ((readValid a w b f = true ∨ s.ci.invalidRun ≠ 1) →
            hasFlag t.tm.flags .encoderFault = hasFlag s.tm.flags .encoderFault))
  ∧ (∀ (s : State) (a : Bool) (w : Word) (b f : Bool), s.ps.plan = none →
      s.ci.read = .inFlightNotHanded →
      ∃ t, exec (.positionReadComplete a w b f) s = .next t
        ∧ t.freeCount = s.freeCount + 1 ∧ t.ci.read = .idle
        ∧ (readValid a w b f = true → ∃ offset : Word,
            t.ci.height = some (heightOf w offset) ∧ t.ci.invalidRun = 0)
        ∧ (readValid a w b f = false →
            t.ci.height = s.ci.height ∧ t.ci.invalidRun = min 255 (s.ci.invalidRun + 1))
        ∧ t.lau = s.lau ∧ t.pu = s.pu ∧ t.phc = s.phc ∧ t.tm = s.tm ∧ t.su = s.su ∧ t.pt = s.pt
        ∧ t.sp = s.sp ∧ t.ps = s.ps)

/-- The laws of the demand (R109, R111, R112), at the control sample of every computation under a plan in
range: its magnitude is at most V[8], and in LIFT and LOWER at most V of the set step, that is the speed of
the own step and of every step reported in the lifting set; it is 0 in LIFT and LOWER when the lead is W or
more, and in every phase that is not moving; it is never downward in LIFT and APPROACH and never upward in
LOWER and RETRACT.
The stages of a computation in LIFT and LOWER under a running session (R101 to R110): the own lift; the
lifting set of the node and, ascending, the peers that follow its session in its phase; the lead over the
least lift of the set in LIFT and under the greatest in LOWER, and the spread; the lock monitor and the step
selector told of lead, spread, load and whether the whole set is locked; the set step, the least of the set;
its speed, or V[1] within the slow zone of a target; arrival at the target with demand 0; the travel clamp;
and else the magnitude that the lead gives, upward in LIFT and downward in LOWER. -/
def Obligations.DemandLaws : Prop :=
  (∀ (s : State) (p : Plan) (a : Bool) (w : Word) (b f : Bool), s.ps.plan = some p →
      PlanInRange p → s.ci.read = .inFlight →
      ∃ t c, exec (.positionReadComplete a w b f) s = .next t ∧ t.pu.sample = some c
        ∧ c.demand.natAbs ≤ p.speeds[7]
        ∧ ((c.phase = .lift ∨ c.phase = .lower) → c.demand.natAbs ≤ p.speeds[t.pu.step]
            ∧ ∀ j r, j ∈ t.pu.lifting → j ≠ p.node → (s.pt.entry j).report = some r →
                c.demand.natAbs ≤ p.speeds[r.step])
        ∧ ((c.phase = .lift ∨ c.phase = .lower) → p.window ≤ c.lead → c.demand = 0)
        ∧ (isMoving c.phase = false → c.demand = 0)
        ∧ ((c.phase = .lift ∨ c.phase = .approach) → 0 ≤ c.demand)
        ∧ ((c.phase = .lower ∨ c.phase = .retract) → c.demand ≤ 0))
  ∧ (∀ (s : State) (p : Plan) (ss : Session) (a : Bool) (w : Word) (b f : Bool), s.ps.plan = some p →
      PlanInRange p → s.ci.read = .inFlight → NotHalted s → NothingTrips s →
      ReadQuiet s (readValid a w b f) → s.su.session = some ss → ss.state = .running →
      (s.phc.phase = .lift ∨ s.phc.phase = .lower) →
      ∃ t c peers, exec (.positionReadComplete a w b f) s = .next t ∧ t.pu.sample = some c
        ∧ t.pu.lifting = p.node :: peers ∧ peers.Pairwise (· < ·)
        ∧ (∀ j, j ∈ peers ↔ j ≠ p.node
            ∧ ∃ r, Follows (s.pt.entry j) ss.token r ∧ r.phase = s.phc.phase)
        ∧ (∀ hc h, s.ci.contactHeight = some hc → t.ci.height = some h →
            c.lift.toInt = max (-32768) (min 32767 ((h.toNat : Int) - hc.toNat)))
        ∧ ((s.ci.contactHeight = none ∨ t.ci.height = none) → c.lift = 0)
        ∧ (let reports := peers.filterMap (fun j => (s.pt.entry j).report)
           let lifts := c.lift.toInt :: reports.map (·.lift.toInt)
           let lock := lockStep p.window c.lead s.pu.sync s.pu.lockRun
           let load := t.ci.load.elim 0 (·.toNat)
           let chosen := selectStep p c.spread load
             (lock.1 == .lock && reports.all (·.sync == .lock)) s.pu
           ∃ least greatest k, lifts.min? = some least ∧ lifts.max? = some greatest
            ∧ (c.spread : Int) = greatest - least
            ∧ (c.lead : Int) =
                (if s.phc.phase = .lift then c.lift.toInt - least else greatest - c.lift.toInt)
            ∧ t.pu.step = chosen.step ∧ t.pu.windowSum = chosen.windowSum
            ∧ t.pu.windowCount = chosen.windowCount ∧ t.pu.lastWindow = chosen.lastWindow
            ∧ (t.phc.phase = s.phc.phase → t.pu.sync = lock.1 ∧ t.pu.lockRun = lock.2)
            ∧ (t.pu.step :: reports.map (·.step)).min? = some k
            ∧ (let away := fun (target : Word) =>
                if s.phc.phase = .lift then target.toInt - c.lift.toInt
                else c.lift.toInt - target.toInt
               let target : Option Word := if ss.preset = 0 then none else p.presets[ss.preset.val - 1]?
               let speed : Nat :=
                if (target.any fun x => away x ≤ p.slowZone) = true then min p.speeds[k] p.speeds[0]
                else p.speeds[k]
               let stands := if s.phc.phase = .lift then t.ci.height.any fun h => p.hi - 1 ≤ h.toNat
                else t.ci.height.any fun h => h.toNat ≤ p.lo
               if (target.any fun x => away x ≤ 0) = true then
                 c.phase = .hold ∧ c.demand = 0 ∧ t.pu.clamped = false
               else c.phase = s.phc.phase ∧ t.pu.clamped = stands
                 ∧ c.demand =
                    (if stands = true then 0
                     else if s.phc.phase = .lift then (throttle p speed c.lead : Int)
                     else -(throttle p speed c.lead : Int)))))

/-- The magnitude that the lead gives (R109): V at lead 0, at least the creep speed and at most V inside the
window, 0 from the window on, and never more for a greater lead. -/
def Obligations.ThrottleFalls : Prop :=
  ∀ (p : Plan) (v e e' : Nat), PlanInRange p → p.creep ≤ v →
    throttle p v 0 = v
    ∧ (e < p.window → throttle p v e = max (v * (p.window - e) / p.window) p.creep
        ∧ p.creep ≤ throttle p v e ∧ throttle p v e ≤ v)
    ∧ (p.window ≤ e → throttle p v e = 0)
    ∧ (e ≤ e' → throttle p v e' ≤ throttle p v e)

/-- A computation in LIFT or LOWER that finds the preset reached gives a zero demand, which is the value
that the drive is left holding, moves the column to HOLD and records ARRIVED; its control sample and its
REPORT carry HOLD (R70, R108, R115, R116). -/
def Obligations.ArrivalEndsMove : Prop :=
  ∀ (s : State) (p : Plan), s.ps.plan = some p → NothingTrips s →
    (s.phc.phase = .lift ∨ s.phc.phase = .lower) →
    hasArrived p s (ownLift s.ci) = true →
    (let t := paceStages p s
     t.phc.phase = .hold ∧ t.phc.lastStop = .arrived ∧ t.pu.demand = 0 ∧ t.ci.driveEnable = false
      ∧ t.pu.sample.map (fun c => (c.phase, c.demand)) = some (.hold, 0)
      ∧ (t.pt.entry p.node).report.map (·.phase) = some .hold
      ∧ t.su.session = s.su.session ∧ heldValue t.ci = 0)

/-- A node goes from CONTACT to LIFT, or from HOLD to LOWER, only by a computation under a plan at which its
session is PENDING, no stranger is heard and every other member is LIVE, not seen halted, reports the
session's token and reports a phase permitted for the direction (R39, R69, R95).
At such a computation of a node that nothing trips, where no check of the sample trips either, it does
start: the session is RUNNING, CONTACT goes to LIFT, HOLD to LOWER and IDLE to RETRACT, with the drive lines
asserted and the demand still 0, and an IDLE column at or below the parked height stays and has ARRIVED
(R69, R95, R133). A line without a filtered level trips nothing (DESIGN CHOICE, log entry 32).
A PENDING session of a node marked unadopted is never made RUNNING, by any command (R169): the adopted flag is
part of the condition (DEDUCED, log entry 34).
A column in RETRACT at or below the parked height after a read enters IDLE with ARRIVED, its drive lines
negated, and one above it goes on at the retract speed (R72, R112). -/
def Obligations.StartNeedsWholeSet : Prop :=
  (∀ (c : Instr) (s t : State), exec c s = .next t →
    (s.phc.phase = .contact ∧ t.phc.phase = .lift
      ∨ s.phc.phase = .hold ∧ t.phc.phase = .lower) →
    (∃ a w b f, c = .positionReadComplete a w b f)
    ∧ ∃ p ss, s.ps.plan = some p ∧ s.su.session = some ss ∧ ss.state = .pending
      ∧ s.ps.adopted = true
      ∧ (∀ j, (s.pt.entry j).state ≠ .stranger)
      ∧ (∀ j, isMember p j = true → j ≠ p.node → ∃ r, (s.pt.entry j).state = .live
          ∧ (s.pt.entry j).report = some r ∧ (r.halt = none ∨ (s.pt.entry j).stale = true)
          ∧ r.token = some ss.token
          ∧ (if s.phc.phase = .contact then r.phase = .contact ∨ r.phase = .lift
             else r.phase = .hold ∨ r.phase = .lower ∨ r.phase = .idle ∨ r.phase = .retract)))
  ∧ (∀ (c : Instr) (s t : State) (ss ss' : Session), exec c s = .next t → s.ps.adopted = false →
      s.su.session = some ss → ss.state = .pending → t.su.session = some ss' → ss'.state = .pending)
  ∧ (∀ (s : State) (p : Plan) (ss : Session) (a : Bool) (w : Word) (b f : Bool), s.ps.plan = some p →
      PlanInRange p → s.ci.read = .inFlight → NotHalted s → NothingTrips s →
      s.ci.levels.limitUp ≠ some true → s.ci.levels.limitDown ≠ some true →
      s.ci.levels.driveReady ≠ some false → ReadQuiet s (readValid a w b f) →
      s.su.session = some ss → ss.state = .pending → s.ps.adopted = true →
      ((ss.dir = .up ∧ s.phc.phase = .contact ∧ SetAgrees p s.pt ss.token [.contact, .lift])
        ∨ (ss.dir = .down ∧ (s.phc.phase = .hold ∨ s.phc.phase = .idle)
          ∧ SetAgrees p s.pt ss.token [.hold, .lower, .idle, .retract])) →
      ∃ t, exec (.positionReadComplete a w b f) s = .next t
        ∧ (t.tm.record = none →
            t.su.session = some { ss with state := .running } ∧ t.pu.demand = 0
            ∧ (if s.phc.phase = .idle ∧ (t.ci.height.all fun h => h.toNat ≤ p.parked) = true then
                t.phc.phase = .idle ∧ t.phc.lastStop = .arrived
                  ∧ t.ci.driveEnable = s.ci.driveEnable
              else t.phc.phase =
                  (if s.phc.phase = .contact then .lift
                   else if s.phc.phase = .hold then .lower else .retract)
                ∧ t.phc.lastStop = s.phc.lastStop
                ∧ t.ci.driveEnable = true ∧ t.ci.brakeRelease = true
                ∧ (s.phc.phase ≠ .idle → t.pu.step = 0 ∧ t.pu.windowSum = 0 ∧ t.pu.windowCount = 0)
                ∧ t.pu.sync = (if s.phc.phase = .idle then s.pu.sync else .acquire)
                ∧ t.ci.contactHeight = (if s.phc.phase = .idle then none else s.ci.contactHeight))))
  ∧ (∀ (s : State) (p : Plan) (a : Bool) (w : Word) (b f : Bool), s.ps.plan = some p →
      PlanInRange p → s.ci.read = .inFlight → NotHalted s → NothingTrips s →
      ReadQuiet s (readValid a w b f) → s.phc.phase = .retract → s.ci.height.isSome = true →
      ∃ t c h, exec (.positionReadComplete a w b f) s = .next t ∧ t.pu.sample = some c
        ∧ t.ci.height = some h
        ∧ (h.toNat ≤ p.parked → t.phc.phase = .idle ∧ t.phc.lastStop = .arrived ∧ c.phase = .idle
            ∧ c.demand = 0 ∧ t.pu.demand = 0 ∧ heldValue t.ci = 0 ∧ t.tm.record = none
            ∧ t.ci.driveEnable = false ∧ t.ci.brakeRelease = false ∧ t.tm.restHeight = some h)
        ∧ (p.parked < h.toNat → c.phase = .retract ∧ c.demand = -(p.retract : Int)
            ∧ t.phc.lastStop = s.phc.lastStop
            ∧ (t.tm.record = none → t.phc.phase = .retract ∧ t.pu.demand = -(p.retract : Int))))

/-- The lock monitor (R129 to R131): ACQUIRE becomes TRACK at the fourth lead in a row below W; TRACK becomes
LOCK at the sixteenth below W/2; TRACK and LOCK fall to ACQUIRE at a lead of 2W or more, and LOCK to TRACK
at a lead of W or more; every change sets the run to 0. -/
def Obligations.LockMonitorTable : Prop :=
  ∀ (w e run : Nat),
    (w ≤ e → lockStep w e .acquire run = (.acquire, 0))
    ∧ (e < w → run + 1 < 4 → lockStep w e .acquire run = (.acquire, run + 1))
    ∧ (e < w → run + 1 = 4 → lockStep w e .acquire run = (.track, 0))
    ∧ (2 * w ≤ e → lockStep w e .track run = (.acquire, 0) ∧ lockStep w e .lock run = (.acquire, 0))
    ∧ (w / 2 ≤ e → e < 2 * w → lockStep w e .track run = (.track, 0))
    ∧ (e < w / 2 → run + 1 < 16 → lockStep w e .track run = (.track, run + 1))
    ∧ (e < w / 2 → run + 1 = 16 → lockStep w e .track run = (.lock, 0))
    ∧ (w ≤ e → e < 2 * w → lockStep w e .lock run = (.track, 0))
    ∧ (e < w → lockStep w e .lock 0 = (.lock, 0))

/-- The step selector at one computation (R120 to R125): the own step rises by at most one, only at a window
end and only when the node and all of L are locked, and never above the ceiling; the immediate fallback
lowers it by one and clears the window. A spread below the 32nd goes into the window. At the 32nd the window
ends: the proposal is brought down to S_max and then by the load deduction of 2 steps from 90 % of the
rating and 1 step from 80 %, never below step 1; the own step falls to it at once, or rises by one when all
are locked, or stays; and the last window record says so (R121, R124 to R126).
The proposal of a window end is the highest step whose threshold the mean meets (R119, R123): every step up
to it is met and no higher one is. -/
def Obligations.StepSelectorLaws : Prop :=
  (∀ (p : Plan) (spread load : Nat) (locked : Bool) (pu : PaceUnit), PlanInRange p →
      (let t := selectStep p spread load locked pu
       t.step.val ≤ pu.step.val + 1
        ∧ (pu.step.val < t.step.val → locked = true ∧ 32 ≤ pu.windowCount + 1
            ∧ t.step.val + 1 ≤ p.sMax)
        ∧ (pu.step.val + 1 ≤ p.sMax → t.step.val + 1 ≤ p.sMax)
        ∧ (2 * p.thresholds[pu.step] < spread →
            t = { pu with step := ⟨pu.step.val - 1, by omega⟩, windowSum := 0, windowCount := 0 })
        ∧ (spread ≤ 2 * p.thresholds[pu.step] → pu.windowCount + 1 < 32 →
            t = { pu with windowSum := min 2097151 (pu.windowSum + spread)
                          windowCount := pu.windowCount + 1 })
        ∧ (spread ≤ 2 * p.thresholds[pu.step] → 32 ≤ pu.windowCount + 1 →
            ∃ r : WindowRecord,
              t = { pu with step := t.step, windowSum := 0, windowCount := 0, lastWindow := some r }
              ∧ r.ceiled.val =
                  min (proposal p (min 2097151 (pu.windowSum + spread) / 32)).val (p.sMax - 1)
              ∧ r.deduction = (if p.padRating * 9 ≤ load * 10 then 2
                  else if p.padRating * 8 ≤ load * 10 then 1 else 0)
              ∧ r.final.val = r.ceiled.val - r.deduction
              ∧ (r.final < pu.step → t.step = r.final ∧ r.outcome = .fell)
              ∧ (r.final = pu.step → t.step = pu.step ∧ r.outcome = .unchanged)
              ∧ (pu.step < r.final → locked = true →
                  t.step.val = pu.step.val + 1 ∧ r.outcome = .rose)
              ∧ (pu.step < r.final → locked = false → t.step = pu.step ∧ r.outcome = .held))))
  ∧ (∀ (p : Plan) (mean : Nat), PlanInRange p → mean ≤ 65535 →
      (∀ k : Step, k ≤ proposal p mean → mean ≤ p.thresholds[k])
      ∧ (∀ k : Step, proposal p mean < k → p.thresholds[k] < mean))

/-- DEMAND_TRANSFER_COMPLETE: the word in transfer becomes the demand word last sent, and a waiting word
follows it at once (R51).
A completed read under a plan hands the drive one more word: its 17 bits are even and its value is the node's
demand, which is that of the control sample, or the 0 of a halt at that completion (R51, R111). With a
transfer in flight that word waits behind it and takes the place of a word that waits there already: R51 says
so of the zero word of a halt or a departure alone, and of a read's word it is the model's choice (DESIGN
CHOICE, log entry 5). -/
def Obligations.TransferCompletes : Prop :=
  (∀ (s : State) (d : DemandWord), s.ci.transfer = some d →
    exec .demandTransferComplete s = .next { s with
      ci := { s.ci with lastWord := d.value, transfer := s.ci.nextWord, nextWord := none } })
  ∧ (∀ (s : State) (p : Plan) (a : Bool) (w : Word) (b f : Bool), s.ps.plan = some p →
      s.ci.read = .inFlight → (s.ci.transfer = none → s.ci.nextWord = none) →
      ∃ t c d, exec (.positionReadComplete a w b f) s = .next t ∧ t.pu.sample = some c
        ∧ (t.ci.nextWord = some d ∨ t.ci.nextWord = none ∧ t.ci.transfer = some d)
        ∧ (∀ d', s.ci.transfer = some d' → t.ci.transfer = some d' ∧ t.ci.nextWord = some d)
        ∧ EvenWord d ∧ d.value = BitVec.ofInt 16 t.pu.demand
        ∧ (t.tm.record = s.tm.record → t.pu.demand = c.demand)
        ∧ (t.tm.record ≠ s.tm.record → t.pu.demand = 0) ∧ t.ci.lastWord = s.ci.lastWord)

/-! ### Load -/

/-- A load sample of 16 edges under a plan, in a phase where nothing follows from it: it becomes the latest
load, each run rises by one when the sample meets its condition and becomes 0 otherwise, and the silence
timer is re-armed to 100 ms (R45, R46, R50). A burst of another length changes nothing; without a plan only
the latest load changes, the silence timer with the rest left as it is (DEDUCED against the letter of R50,
log entry 15).
The load checks that stand outside the unloading (R142): the third sample below half the contact level halts
on LOAD_LOST in CONTACT, LIFT and HOLD; the second above the pad rating halts on OVERLOAD in APPROACH,
CONTACT, LIFT, HOLD and LOWER. -/
def Obligations.LoadSampleCounts : Prop :=
  (∀ (s : State) (w : Word),
      (∀ p, s.ps.plan = some p → s.ci.startSamples = 3 →
        (s.phc.phase = .idle ∨ s.phc.phase = .starting ∨ s.phc.phase = .retract
          ∨ s.phc.phase = .halted) →
        exec (.loadSample 16 w) s = .next { s with ci := { s.ci with
          load := some w
          contactRun := if p.contactLevel ≤ w.toNat then min 255 (s.ci.contactRun + 1) else 0
          unloadRun := if w.toNat < p.contactLevel then min 255 (s.ci.unloadRun + 1) else 0
          lossRun := if w.toNat < p.contactLevel / 2 then min 255 (s.ci.lossRun + 1) else 0
          overloadRun := if p.padRating < w.toNat then min 255 (s.ci.overloadRun + 1) else 0
          loadTimer := some 100000
          loadSilent := false } })
      ∧ (s.ps.plan = none →
        exec (.loadSample 16 w) s = .next { s with ci := { s.ci with load := some w } })
      ∧ (∀ n, n ≠ 16 → exec (.loadSample n w) s = .next s))
  ∧ (∀ (s : State) (p : Plan) (w : Word), s.ps.plan = some p → s.ci.startSamples = 3 →
    s.tm.record = none → w.toNat < p.contactLevel / 2 → 2 ≤ s.ci.lossRun → w.toNat ≤ p.padRating →
    (s.phc.phase = .contact ∨ s.phc.phase = .lift ∨ s.phc.phase = .hold) →
    s.ci.levels.estop ≠ some true → s.ci.levels.driveFault ≠ some true →
    ∃ t, exec (.loadSample 16 w) s = .next t
      ∧ HaltedWith { cause := .loadLost, originator := p.node, remote := false,
                     originatorLift := sampleLift s, ownLift := sampleLift s, peer := none,
                     token := s.su.session.map (·.token) } s t
      ∧ hasFlag t.tm.flags .loadLost = true)
  ∧ (∀ (s : State) (p : Plan) (w : Word), s.ps.plan = some p → s.ci.startSamples = 3 →
    s.tm.record = none → p.padRating < w.toNat → p.contactLevel ≤ w.toNat → 1 ≤ s.ci.overloadRun →
    (s.phc.phase = .approach ∨ s.phc.phase = .contact ∨ s.phc.phase = .lift ∨ s.phc.phase = .hold
      ∨ s.phc.phase = .lower) →
    s.ci.levels.estop ≠ some true → s.ci.levels.driveFault ≠ some true →
    s.ci.levels.nut ≠ some true →
    ∃ t, exec (.loadSample 16 w) s = .next t
      ∧ t.tm.record = some { cause := .overload, originator := p.node, remote := false,
                             originatorLift := sampleLift s, ownLift := sampleLift s, peer := none,
                             token := s.su.session.map (·.token) }
      ∧ hasFlag t.tm.flags .overload = true ∧ t.phc.phase = .halted ∧ t.su.session = none
      ∧ t.ci.driveEnable = false ∧ t.ci.brakeRelease = false ∧ t.pu.demand = 0)

/-- The third sample in a row at the contact level makes contact in APPROACH: h_c takes h, the column enters
CONTACT, its drive lines fall, its demand is 0 and a zero word goes out; the contact timer runs on (R48,
R51, R68, R75). -/
def Obligations.ContactIsMade : Prop :=
  ∀ (s : State) (p : Plan) (w : Word), s.ps.plan = some p → s.phc.phase = .approach →
    s.ci.startSamples = 3 → p.contactLevel ≤ w.toNat → w.toNat ≤ p.padRating →
    2 ≤ s.ci.contactRun → NothingTrips s →
    ∃ t, exec (.loadSample 16 w) s = .next t
      ∧ t.phc.phase = .contact ∧ t.ci.contactHeight = s.ci.height ∧ t.ci.height = s.ci.height
      ∧ t.ci.driveEnable = false ∧ t.ci.brakeRelease = false ∧ t.pu.demand = 0
      ∧ ZeroWordSent s.ci t.ci
      ∧ t.phc.contactTimer = s.phc.contactTimer ∧ t.tm.restHeight = s.ci.height
      ∧ t.su = s.su ∧ t.tm.record = s.tm.record ∧ t.pt = s.pt ∧ t.ps = s.ps

/-- Unloading in LOWER (R71, R142): with the lift of the last control sample at or below the unload zone the
third sample below the contact level takes the column into RETRACT, h_c becomes invalid and the drive
lines stay; above the zone the third sample below half the contact level halts it on LOAD_LOST. -/
def Obligations.UnloadingInLower : Prop :=
  ∀ (s : State) (p : Plan) (w : Word) (c : ControlSample), s.ps.plan = some p →
    s.phc.phase = .lower → s.ci.startSamples = 3 → s.pu.sample = some c →
    s.ci.contactHeight.isSome = true → w.toNat < p.contactLevel → w.toNat ≤ p.padRating →
    2 ≤ s.ci.unloadRun → NothingTrips s → s.ci.levels.limitDown ≠ some true →
    s.tm.record = none →
    (c.lift.toInt ≤ p.unloadZone.toInt → ∃ t, exec (.loadSample 16 w) s = .next t
      ∧ t.phc.phase = .retract ∧ t.ci.contactHeight = none
      ∧ t.ci.driveEnable = s.ci.driveEnable ∧ t.ci.transfer = s.ci.transfer
      ∧ t.pu.sync = .acquire ∧ t.su = s.su ∧ t.tm.record = none)
    ∧ (p.unloadZone.toInt < c.lift.toInt → 2 ≤ s.ci.lossRun → w.toNat < p.contactLevel / 2 →
      ∃ t, exec (.loadSample 16 w) s = .next t
      ∧ HaltedWith { cause := .loadLost, originator := p.node, remote := false,
                     originatorLift := c.lift, ownLift := c.lift, peer := none,
                     token := s.su.session.map (·.token) } s t
      ∧ hasFlag t.tm.flags .loadLost = true)

/-- Start-up (R64): at the second of its two events an unloaded verdict takes STARTING to IDLE and a loaded one
halts the node on NO_REFERENCE; both mark the record done. Here the third load sample is the second
event. -/
def Obligations.StartupEnds : Prop :=
  ∀ (s : State) (p : Plan) (w : Word), s.ps.plan = some p → s.phc.phase = .starting →
    s.tm.record = none → s.ci.startSamples = 2 → s.phc.startup.validRead = true →
    s.phc.startup.done = false → s.su.session = none → NothingTrips s →
    (w.toNat < p.contactLevel → ∃ t, exec (.loadSample 16 w) s = .next t
      ∧ t.phc.phase = .idle ∧ t.phc.startup = { validRead := true, verdict := some false, done := true }
      ∧ t.tm.record = none ∧ t.ci.startSamples = 3)
    ∧ (p.contactLevel ≤ w.toNat → 2 ≤ s.ci.contactRun → ∃ t, exec (.loadSample 16 w) s = .next t
      ∧ t.phc.startup = { validRead := true, verdict := some true, done := true }
      ∧ HaltedWith { cause := .noReference, originator := p.node, remote := false,
                     originatorLift := sampleLift s, ownLift := sampleLift s, peer := none,
                     token := none } s t
      ∧ hasFlag t.tm.flags .noReference = true)

/-! ### Lines and pendant -/

/-- The inputs settle (R54, R56, R163): every line takes its level, no change is reported, the held
direction is that of UP and DOWN, and the LOAD begins. The further settling of a settled node changes
nothing (DESIGN CHOICE and DEDUCED, log entries 6, 7 and 31). -/
def Obligations.InputsSettle : Prop :=
  ∀ (s : State) (l : LineLevels),
    (s.ci.inputsSettled = false → s.ci.levels = .unsettled → s.phc.phase = .unplanned →
      s.ps.op = .none → ∃ t, exec (.inputsSettled l) s = .next t
      ∧ t.ci.inputsSettled = true ∧ t.ps = { s.ps with op := .load }
      ∧ t.ci.levels.estop = some l.estop ∧ t.ci.levels.limitUp = some l.limitUp
      ∧ t.ci.levels.limitDown = some l.limitDown ∧ t.ci.levels.nut = some l.nut
      ∧ t.ci.levels.driveReady = some l.driveReady ∧ t.ci.levels.driveFault = some l.driveFault
      ∧ t.ci.levels.up = some l.up ∧ t.ci.levels.down = some l.down ∧ t.ci.levels.stop = some l.stop
      ∧ t.ci.levels.resetReq = some l.resetReq ∧ t.ci.levels.preset0 = some l.preset0
      ∧ t.ci.levels.preset1 = some l.preset1 ∧ t.ci.levels.preset2 = some l.preset2
      ∧ (t.ci.held = if l.up && !l.down then some .up
          else if l.down && !l.up then some .down else none)
      ∧ t.lau = s.lau ∧ t.su = s.su ∧ t.tm = s.tm ∧ t.sp = s.sp ∧ t.phc = s.phc)
    ∧ (s.ci.inputsSettled = true → exec (.inputsSettled l) s = .next s)

/-- A change of LIMIT_UP or of LIMIT_DOWN trips TRAVEL_LIMIT only in the phases that travel towards it, and
then records its side; in every other phase the new level is all that changes (R55, R141). A change of NUT
to made trips NUT_ENGAGED in the loaded and the moving phases and in no other, and NUT made already trips at
the entry into a loaded phase, here from HOLD into CONTACT (R62, R141).
The drive status lines (R53): the drive becomes ready clears the drive-not-ready latch, and a filtered
change of DRIVE_FAULT to asserted trips DRIVE_FAULT under a plan in every phase. -/
def Obligations.SwitchesAndDriveStatus : Prop :=
  (∀ (s : State) (p : Plan), s.ps.plan = some p → NotHalted s →
      s.ci.levels.limitUp = some false → s.ci.levels.limitDown = some false →
      ((s.phc.phase = .approach ∨ s.phc.phase = .lift) →
        ∃ t, exec (.switchChange .limitUp true) s = .next t
          ∧ t.tm.record.map (·.cause) = some .travelLimit ∧ t.phc.phase = .halted
          ∧ t.tm.travelSide = some .upper ∧ hasFlag t.tm.flags .travelLimit = true
          ∧ t.ci.driveEnable = false ∧ t.su.session = none)
      ∧ ((s.phc.phase = .lower ∨ s.phc.phase = .retract) →
        ∃ t, exec (.switchChange .limitDown true) s = .next t
          ∧ t.tm.record.map (·.cause) = some .travelLimit ∧ t.phc.phase = .halted
          ∧ t.tm.travelSide = some .lower ∧ hasFlag t.tm.flags .travelLimit = true
          ∧ t.ci.driveEnable = false ∧ t.su.session = none)
      ∧ (s.phc.phase ≠ .approach → s.phc.phase ≠ .lift →
        exec (.switchChange .limitUp true) s = .next { s with
          ci := { s.ci with levels := { s.ci.levels with limitUp := some true } } })
      ∧ (s.phc.phase ≠ .lower → s.phc.phase ≠ .retract →
        exec (.switchChange .limitDown true) s = .next { s with
          ci := { s.ci with levels := { s.ci.levels with limitDown := some true } } }))
  ∧ (∀ (s : State) (p : Plan), s.ps.plan = some p → NotHalted s →
      (s.ci.levels.nut = some false → (isLoaded s.phc.phase = true ∨ isMoving s.phc.phase = true) →
        s.ci.levels.estop ≠ some true → s.ci.levels.driveFault ≠ some true →
        ∃ t, exec (.switchChange .nut true) s = .next t
          ∧ HaltedWith { cause := .nutEngaged, originator := p.node, remote := false,
                         originatorLift := sampleLift s, ownLift := sampleLift s, peer := none,
                         token := s.su.session.map (·.token) } s t
          ∧ hasFlag t.tm.flags .nutEngaged = true ∧ WithdrawsStart p s t)
      ∧ (s.ci.levels.nut = some false → isLoaded s.phc.phase = false → isMoving s.phc.phase = false →
        exec (.switchChange .nut true) s = .next { s with
          ci := { s.ci with levels := { s.ci.levels with nut := some true } } })
      ∧ (∀ (k : Bool) (n : NodeNum) (e q : Byte) (ps : Preset), Hears s p n → isMember p n = true →
        s.su.session = none → s.phc.phase = .hold → s.ci.levels.nut = some true →
        s.ci.levels.estop ≠ some true → s.ci.levels.driveFault ≠ some true →
        ∃ t, exec (opening k .up n e q ps) s = .next t
          ∧ HaltedWith { cause := .nutEngaged, originator := p.node, remote := false,
                         originatorLift := sampleLift s, ownLift := sampleLift s, peer := none,
                         token := some ⟨n, q⟩ } s t
          ∧ hasFlag t.tm.flags .nutEngaged = true))
  ∧ (∀ s : State,
      (s.ci.levels.driveReady = some false → s.ci.levels.driveFault = some false →
        exec (.driveStatusChange .ready true) s = .next { s with ci := { s.ci with
          levels := { s.ci.levels with driveReady := some true }, driveNotReady := false } })
      ∧ (s.ci.levels.driveFault = some true → s.ci.levels.driveReady = some true →
        exec (.driveStatusChange .fault false) s = .next { s with ci := { s.ci with
          levels := { s.ci.levels with driveFault := some false }, driveNotReady := false } })
      ∧ (∀ p, s.ps.plan = some p → NotHalted s → s.ci.levels.driveFault = some false →
        ∃ t, exec (.driveStatusChange .fault true) s = .next t
          ∧ HaltedWith { cause := .driveFault, originator := p.node, remote := false,
                         originatorLift := sampleLift s, ownLift := sampleLift s, peer := none,
                         token := s.su.session.map (·.token) } s t
          ∧ hasFlag t.tm.flags .driveFault = true ∧ t.ci.driveNotReady = s.ci.driveNotReady))

/-- A press of UP or DOWN, from no held direction or straight from the other one (R56, R58, R80, R81). In a
phase that takes presses, with the plan adopted, the sequence counter rises by one with wrap and the START
with it and the selected preset joins the normal lane or replaces the MOTION there, the END of a released
press included; the press is WAITING and the session is not touched. In STARTING and HALTED, or marked
unadopted, nothing is composed for it and it is SPENT without a token. -/
def Obligations.PressComposesStart : Prop :=
  ∀ (s : State) (p : Plan) (d : Direction) (sel : BitVec 3), s.ps.plan = some p →
    s.ci.levels.up.isSome = true → s.ci.levels.down.isSome = true → s.ci.held ≠ some d →
    (let preset : Preset := if h : sel.toNat < 5 then ⟨sel.toNat, h⟩ else 0
     let c := Instr.heldDirectionChange (d == .up) (d == .down) sel
     (isDeaf s.phc.phase = false → s.ps.adopted = true →
        ∃ t, exec c s = .next t
          ∧ t.su = { s.su with sequence := s.su.sequence + 1,
                               press := .waiting ⟨p.node, s.su.sequence + 1⟩ d preset }
          ∧ TakesPlace s.lau.normal (motionOf p s (.start d (s.su.sequence + 1) preset)) t.lau.normal
          ∧ t.lau.urgent = s.lau.urgent ∧ t.ci.held = some d
          ∧ t.phc = s.phc ∧ t.tm = s.tm ∧ t.pt = s.pt ∧ t.ps = s.ps ∧ t.sp = s.sp)
      ∧ (isDeaf s.phc.phase = true ∨ s.ps.adopted = false →
        (s.ci.held = none ∨ s.su.press = .none ∨ ∃ k d' ps, s.su.press = .spent k d' ps) →
        ∃ t, exec c s = .next t
          ∧ t.su = { s.su with press := .spent none d (some preset) }
          ∧ t.lau = s.lau ∧ t.ci.held = some d ∧ t.phc = s.phc ∧ t.tm = s.tm ∧ t.ps = s.ps))

/-- A release, by letting go or by pressing both buttons (R56, R83): of a WAITING or HELD press it composes
the END with the press's token, which joins the normal lane or replaces the MOTION there; of a SPENT or
absent press it composes nothing; the press record is NONE after it, and the session record is not touched. -/
def Obligations.ReleaseComposesEnd : Prop :=
  ∀ (s : State) (p : Plan) (d : Direction) (both : Bool) (sel : BitVec 3), s.ps.plan = some p →
    s.ci.held = some d → s.ci.levels.up.isSome = true → s.ci.levels.down.isSome = true →
    (∀ k d' ps, (s.su.press = .waiting k d' ps ∨ s.su.press = .held k d' ps) →
      ∃ t, exec (.heldDirectionChange both both sel) s = .next t
        ∧ t.su = { s.su with press := .none } ∧ t.ci.held = none
        ∧ TakesPlace s.lau.normal (motionOf p s (.finish k)) t.lau.normal
        ∧ t.lau.urgent = s.lau.urgent ∧ t.phc = s.phc ∧ t.tm = s.tm ∧ t.ps = s.ps)
    ∧ ((s.su.press = .none ∨ ∃ k d' ps, s.su.press = .spent k d' ps) →
      ∃ t, exec (.heldDirectionChange both both sel) s = .next t
        ∧ t.su = { s.su with press := .none } ∧ t.ci.held = none ∧ t.lau = s.lau
        ∧ t.phc = s.phc ∧ t.tm = s.tm ∧ t.ps = s.ps)

/-- A stop press, the change of STOP from released to pressed (R57, R84): with a session held, of whatever
originator, it composes the END with the session's token and a WAITING or HELD press is SPENT; the session
itself stays until the END completes. With no session held it ends a WAITING press and composes nothing for
any other. In UNPLANNED, STARTING and HALTED nothing but the level changes. A release of STOP, in every state
and from a pressed line, gives no event: nothing but the level changes (R57). -/
def Obligations.StopPressEnds : Prop :=
  ∀ s : State,
    (s.ci.levels.stop = some false →
      (∀ p ss, s.ps.plan = some p → s.su.session = some ss → isDeaf s.phc.phase = false →
        ∃ t, exec (.stopPress true) s = .next t
          ∧ t.su.session = some ss ∧ t.su.sequence = s.su.sequence
          ∧ (∀ k d ps, (s.su.press = .waiting k d ps ∨ s.su.press = .held k d ps) →
              t.su.press = .spent (some k) d (some ps))
          ∧ ((s.su.press = .none ∨ ∃ k d ps, s.su.press = .spent k d ps) → t.su.press = s.su.press)
          ∧ TakesPlace s.lau.normal (motionOf p s (.finish ss.token)) t.lau.normal
          ∧ t.lau.urgent = s.lau.urgent
          ∧ t.ci.levels.stop = some true ∧ t.phc = s.phc ∧ t.tm = s.tm ∧ t.ps = s.ps)
      ∧ (∀ p k d ps, s.ps.plan = some p → s.su.session = none → s.su.press = .waiting k d ps →
        isDeaf s.phc.phase = false →
        ∃ t, exec (.stopPress true) s = .next t
          ∧ t.su = { s.su with press := .spent (some k) d (some ps) }
          ∧ TakesPlace s.lau.normal (motionOf p s (.finish k)) t.lau.normal
          ∧ t.lau.urgent = s.lau.urgent
          ∧ t.ci.levels.stop = some true ∧ t.phc = s.phc ∧ t.tm = s.tm ∧ t.ps = s.ps)
      ∧ (s.su.session = none → (∀ k d ps, s.su.press ≠ .waiting k d ps) →
        exec (.stopPress true) s = .next { s with
          ci := { s.ci with levels := { s.ci.levels with stop := some true } } })
      ∧ (isDeaf s.phc.phase = true → exec (.stopPress true) s = .next { s with
          ci := { s.ci with levels := { s.ci.levels with stop := some true } } }))
    ∧ (exec (.stopPress false) s = .next { s with
        ci := { s.ci with levels := { s.ci.levels with stop := some false } } })

/-- RESET_REQ (R57, R151): the change to pressed starts the hold timer of 1 s and the release stops it; at its
expiry a halted node composes the CLEAR with its epoch plus 1, or 1 when the epoch is unknown, which joins
the urgent lane or replaces the CLEAR there, and changes nothing else; a node that is not halted ignores
it. -/
def Obligations.ResetRequestClears : Prop :=
  ∀ s : State,
    (s.ci.levels.resetReq = some false →
      exec (.resetReqChange true) s = .next { s with ci := { s.ci with
        levels := { s.ci.levels with resetReq := some true }, holdTimer := some 1000000 } })
    ∧ (exec (.resetReqChange false) s = .next { s with ci := { s.ci with
        levels := { s.ci.levels with resetReq := some false }, holdTimer := none } })
    ∧ (s.ci.holdTimer.isSome = true → s.tm.record = none →
      exec .resetRequestHoldExpiry s = .next { s with ci := { s.ci with holdTimer := none } })
    ∧ (∀ p, s.ci.holdTimer.isSome = true → s.tm.record.isSome = true → s.ps.plan = some p →
      ∃ t, exec .resetRequestHoldExpiry s = .next t
        ∧ TakesPlace s.lau.urgent
            { sender := p.node,
              epochByte := match s.tm.epoch with
                | some e => e + 1
                | none => 1
              body := .clear }
            t.lau.urgent
        ∧ t.lau.normal = s.lau.normal ∧ t.ci = { s.ci with holdTimer := none }
        ∧ t.phc = s.phc ∧ t.tm = s.tm ∧ t.su = s.su ∧ t.ps = s.ps ∧ t.sp = s.sp)

/-! ### The plan -/

/-- The image left by adoption passes every check, holds the plan in force, and is unchanged by a second
adoption (R167). -/
def Obligations.AdoptionIsStable : Prop :=
  ∀ m : Machine.Memory, failingCheck m = none →
    failingCheck (adoptedImage m) = none ∧ planOf (adoptedImage m) = planOf m
      ∧ adoptedImage (adoptedImage m) = adoptedImage m

/-- A LOAD that reads an image that passes, and an ADOPT of an image that passes, put the plan into force
(R24, R60, R63, R97, R98, R135, R157, R162, R167); the node is in STARTING when neither the
emergency-stop loop nor the drive stands in fault, a line without a filtered level included (DESIGN CHOICE, log
entry 32). -/
def Obligations.GoodPlanIsAdopted : Prop :=
  ∀ (s : State) (c : Instr) (m : Machine.Memory), failingCheck m = none →
    s.ci.levels.estop ≠ some true → s.ci.levels.driveFault ≠ some true →
    ((∃ bytes, c = .loadComplete bytes ∧ m = Memory.ofLoad bytes ∧ s.ps.op = .load
        ∧ s.phc.phase = .unplanned)
      ∨ (c = .adopt ∧ m = s.ps.image ∧ s.ps.op = .none ∧ s.sp.parser = [] ∧ s.sp.breakHeld = false
        ∧ (s.phc.phase = .unplanned ∨ s.phc.phase = .idle ∧ s.su.session = none))) →
    ∃ t, exec c s = .next t
      ∧ t.phc.phase = .starting ∧ t.phc.startup = { validRead := false, verdict := none, done := false }
      ∧ t.phc.lastStop = s.phc.lastStop
      ∧ t.ps.image = adoptedImage m ∧ t.ps.plan = some (planOf m) ∧ t.ps.adopted = true
      ∧ t.ps.fingerprint = some (imageFingerprint (adoptedImage m)) ∧ t.ps.outcome = .adopted
      ∧ t.ps.fingerprint = some (if t.ps.image.read 0x27 = 0 ∧ t.ps.image.read 0x5D = 0 then 1
          else t.ps.image.read 0x27 ++ t.ps.image.read 0x5D)
      ∧ t.ps.op = .none ∧ t.sp.latch.getLsbD 6 = true
      ∧ (t.pt.entry (planOf m).node).state = .self
      ∧ (∀ j, isMember (planOf m) j = true → j ≠ (planOf m).node → t.pt.entry j =
          { state := .expected, report := none, silence := 0, stale := false, fresh := false })
      ∧ t.pu.timer = some (((planOf m).node.val % 16 + 1) * (10000 * 2 ^ (planOf m).periodCode / 16))
      ∧ t.pu.step = 0 ∧ t.pu.sync = .acquire ∧ t.pu.demand = s.pu.demand
      ∧ t.ci.loadTimer = some 100000 ∧ t.ci.contactRun = 0 ∧ t.ci.startSamples = 0
      ∧ t.ci.height = s.ci.height ∧ t.ci.contactHeight = s.ci.contactHeight
      ∧ t.su = { s.su with session := none, press := .none } ∧ t.tm.epoch = s.tm.epoch
      ∧ t.tm.flags = 0 ∧ t.lau = s.lau
      ∧ (c = .adopt → t.sp.reply = [0])

/-- The checks of an image in their order (R161, R165, R186): the tag, the version, the five section
checksums in image order, each of the section's bytes rotated in from 0, the node number, and its membership
bit; the first that fails is named with its section, and an image that fails none passes.
A plan that fails a check is refused, at the end of a LOAD and by a permitted ADOPT (R168): the outcome
names section and check, the plan, the adopted flag and the fingerprint are gone, the image keeps its bytes,
PLAN latches, and the node is in UNPLANNED; one that leaves IDLE has empty lanes, safe drive lines and an
empty table (R18, R25, R60), and one that was UNPLANNED changes nothing else. -/
def Obligations.BadPlanIsRefused : Prop :=
  (checksum [] = 0 ∧ ∀ bytes b, checksum (bytes ++ [b]) = (checksum bytes).rotateLeft 1 + b)
  ∧ (∀ m : Machine.Memory, failingCheck m =
      (let sound := fun start count => checksum (m.bytes start count) = m.read (start + count)
       let node := (m.read 0x03).toNat
       if m.read 0x00 ≠ 0xA7 ∨ m.read 0x01 ≠ 0x3C then some (.identity, .tag)
       else if m.read 0x02 ≠ 0x02 then some (.identity, .version)
       else if ¬ sound 0x00 12 then some (.identity, .checksum)
       else if ¬ sound 0x10 23 then some (.set, .checksum)
       else if ¬ sound 0x30 45 then some (.pace, .checksum)
       else if ¬ sound 0x60 12 then some (.column, .checksum)
       else if ¬ sound 0x70 19 then some (.neighbours, .checksum)
       else if 63 < node then some (.identity, .nodeNumber)
       else if (m.read (0x17 - node / 8)).getLsbD (node % 8) = false then some (.set, .notMember)
       else none))
  ∧ (∀ (s : State) (c : Instr) (m : Machine.Memory) (sec : PlanSection) (k : PlanCheck),
      failingCheck m = some (sec, k) →
      ((∃ bytes, c = .loadComplete bytes ∧ m = Memory.ofLoad bytes ∧ s.ps.op = .load
          ∧ s.phc.phase = .unplanned)
        ∨ (c = .adopt ∧ m = s.ps.image ∧ s.ps.op = .none ∧ s.sp.parser = [] ∧ s.sp.breakHeld = false
          ∧ (s.phc.phase = .unplanned ∨ s.phc.phase = .idle ∧ s.su.session = none))) →
      ∃ t, exec c s = .next t
        ∧ t.phc.phase = .unplanned ∧ t.ps.outcome = .badPlan sec k ∧ t.ps.plan = none
        ∧ t.ps.adopted = false ∧ t.ps.fingerprint = none ∧ t.ps.image = m ∧ t.ps.op = .none
        ∧ t.sp.latch.getLsbD 6 = true ∧ (c = .adopt → t.sp.reply = [1])
        ∧ t.tm.epoch = s.tm.epoch
        ∧ (s.phc.phase = .unplanned → t.lau = s.lau ∧ t.pt = s.pt ∧ t.ci = s.ci ∧ t.phc = s.phc
            ∧ t.su = s.su ∧ t.pu = s.pu ∧ t.tm = s.tm)
        ∧ (s.phc.phase = .idle → t.lau.urgent = [] ∧ t.lau.normal = [] ∧ t.lau.transmitter = none
            ∧ t.lau.last = s.lau.last ∧ t.pt = PeerTable.reset
            ∧ t.ci.driveEnable = false ∧ t.ci.brakeRelease = false ∧ ZeroWordSent s.ci t.ci
            ∧ t.ci.loadTimer = none ∧ t.pu.timer = none ∧ t.pu.demand = 0 ∧ t.su.session = none
            ∧ t.su.press = .none ∧ t.tm.record = none ∧ t.tm.flags = 0))

/-- ADOPT and STORE outside UNPLANNED and IDLE with no session answer 2 and 3 and change nothing but the
service line's own echo and reply (R169, R170, R178); a permitted STORE puts the operation in flight and
leaves the reply for its completion (R171, R178).
While a LOAD or STORE is in flight every command but SUMMARY is echoed, answered by the BUSY byte, and
changes nothing else (R177). -/
def Obligations.PlanCommandsGuarded : Prop :=
  (∀ s : State, s.ps.op = .none → s.sp.parser = [] → s.sp.breakHeld = false →
    (planPermitted s = false →
      exec .adopt s = .next { s with sp := { s.sp with
          echo := some 0x30, reply := [2], secondRead := false } }
      ∧ exec .store s = .next { s with sp := { s.sp with
          echo := some 0x31, reply := [3], secondRead := false } })
    ∧ (planPermitted s = true → exec .store s = .next { s with
        ps := { s.ps with op := .store }
        sp := { s.sp with echo := some 0x31, reply := [], secondRead := false } }))
  ∧ (∀ (s : State) (a : Word) (v : Byte), s.ps.op ≠ .none → s.sp.parser = [] →
      s.sp.breakHeld = false → ∀ (c : Instr) (last : Byte),
      (c = .peek a ∧ last = loByte a ∨ c = .poke a v ∧ last = v ∨ c = .peekOn ∧ last = 0x13
        ∨ c = .pokeOn v ∧ last = v ∨ c = .adopt ∧ last = 0x30 ∨ c = .store ∧ last = 0x31
        ∨ c = .restart ∧ last = 0x3F) →
      exec c s = .next { s with sp := { s.sp with
        echo := some last, reply := [0xB5], secondRead := false } })

/-- The configuration memory's outcomes (R163, R171, R178): a LOAD without a memory records NO_MEMORY and
latches PLAN; a STORE ends with status 0 when every byte read back equals the image, 2 when one differs
and 1 when the memory does not acknowledge, and changes no other state of the Plan Store; the status is
sent once the parser is idle. -/
def Obligations.MemoryOutcomes : Prop :=
  ∀ s : State,
    (s.ps.op = .load → exec .loadNoMemory s = .next { s with
        ps := { s.ps with op := .none, outcome := .noMemory }
        sp := { s.sp with latch := s.sp.latch ||| 0x40 } })
    ∧ (s.ps.op = .store → ∀ back : Option (List Byte), ∃ st : Fin 3,
        (back = none → st = 1)
        ∧ (∀ bytes, back = some bytes → bytes = s.ps.image.bytes 0 256 → st = 0)
        ∧ (∀ bytes, back = some bytes → bytes ≠ s.ps.image.bytes 0 256 → st = 2)
        ∧ exec (.storeComplete back) s = .next { s with
            ps := { s.ps with op := .none, storeStatus := some st }
            sp := { s.sp with pendingStore := some st } })
    ∧ (∀ st, s.sp.pendingStore = some st → s.sp.parser = [] → s.sp.breakHeld = false →
        exec .storeReplySent s = .next { s with
          sp := { s.sp with
            pendingStore := none, reply := [BitVec.ofNat 8 st.val], secondRead := false } })

/-! ### The service line -/

/-- PEEK and PEEK_ON read without changing anything but the pointer and the line: PEEK the byte at its
address, PEEK_ON those at pointer + 1 and pointer + 2, with wrap. The second of them is read again at the first
idle slot, as it stands then, after any events in between (R175; DESIGN CHOICE, log entry 23: the slot stands
for the second moment, and until then the reply shows the byte as it stood when the command acted).
What the addresses show (R41, R176, R184, R187): the image below 0x100, the sixteen bytes of each peer entry
from 0x100, the node status block from 0x500, latch and mask at 0x520 to 0x523, and 0x00 above. A line
without a filtered level and absent fields read 0 (DEDUCED, log entry 18).
SUMMARY answers its eight bytes in every phase, with a LOAD or STORE in flight too, and changes nothing but
the line (R177, R179).
The four lamps (R182): READY while no stranger is heard, every other member is LIVE, the halt record is
empty and the epoch is known, and dark without a plan; MOVING in APPROACH, LIFT, LOWER and RETRACT; HALT
while the record holds a halt, which is while the phase is HALTED (R137); HERE while that halt is local. -/
def Obligations.ServiceReads : Prop :=
  (∀ (s : State) (a : Word), s.ps.op = .none → s.sp.parser = [] → s.sp.breakHeld = false →
      exec (.peek a) s = .next { s with sp := { s.sp with
        pointer := a, echo := some (loByte a), reply := [readAddress s a.toNat]
        secondRead := false } }
      ∧ exec .peekOn s = .next { s with sp := { s.sp with
        pointer := s.sp.pointer + 2, echo := some 0x13,
        reply := [readAddress s (s.sp.pointer + 1).toNat,
                  readAddress s (s.sp.pointer + 2).toNat]
        secondRead := true } })
  ∧ (∀ s : State, s.pending = [] → s.sp.secondRead = true →
      ∃ t, step s = .next t ∧ t.sp = { s.sp with
        reply := s.sp.reply.take 1 ++ [readAddress s s.sp.pointer.toNat], secondRead := false })
  ∧ (∀ s : State, s.sp.parser = [] → s.sp.breakHeld = false →
      exec .summary s = .next { s with sp := { s.sp with
        echo := some 0x20, secondRead := false,
        reply := [BitVec.ofNat 8 (phaseCode s.phc.phase),
                  (match s.su.session with
                    | none => 0
                    | some ss => if ss.state = .pending then 1 else 2),
                  (match s.tm.record with
                    | none => 0
                    | some r => BitVec.ofNat 8 (causeCode r.cause)),
                  s.tm.epoch.getD 0xFF,
                  BitVec.ofNat 8 (s.pu.step.val + 1 + 16 * syncCode s.pu.sync),
                  (if nodeSetComplete s then 1 else 0) ||| (if s.tm.epoch.isSome then 2 else 0),
                  BitVec.ofNat 8 (stopCode s.phc.lastStop),
                  BitVec.ofNat 8 (strangerCount s.pt)] } })
  ∧ (∀ s : State,
      (∀ a, a < 0x100 → readAddress s a = s.ps.image.read a)
      ∧ (∀ j : NodeNum, ShowsEntry (s.pt.entry j) (fun i => readAddress s (0x100 + 16 * j.val + i)))
      ∧ ShowsPhase s (fun i => readAddress s (0x500 + i))
      ∧ ShowsPace s (fun i => readAddress s (0x500 + i))
      ∧ (∀ i : Nat, i < 8 → (readAddress s 0x520).getLsbD i = s.sp.latch.getLsbD i
          ∧ (readAddress s 0x521).getLsbD i = s.sp.mask.getLsbD i)
      ∧ readAddress s 0x522 = (if s.sp.latch.getLsbD 8 = true then 1 else 0)
      ∧ readAddress s 0x523 = (if s.sp.mask.getLsbD 8 = true then 1 else 0)
      ∧ (∀ a, 0x524 ≤ a → readAddress s a = 0))
  ∧ (∀ s : State,
      (lampReady s = true ↔ s.tm.record = none ∧ s.tm.epoch.isSome = true ∧ ∃ p, s.ps.plan = some p
        ∧ ∀ j, (s.pt.entry j).state ≠ .stranger
          ∧ (isMember p j = true → j ≠ p.node → (s.pt.entry j).state = .live))
      ∧ (lampMoving s = true ↔ s.phc.phase = .approach ∨ s.phc.phase = .lift ∨ s.phc.phase = .lower
        ∨ s.phc.phase = .retract)
      ∧ (lampHalt s = true ↔ ∃ r, s.tm.record = some r)
      ∧ (HaltAgrees s → (lampHalt s = true ↔ s.phc.phase = .halted))
      ∧ (lampHere s = true ↔ ∃ r, s.tm.record = some r ∧ r.remote = false))

/-- A write into the image range (R169, R176), by POKE or by POKE_ON: permitted, it changes that byte alone,
clears the adopted flag and makes the fingerprint absent; not permitted, it changes nothing but the
pointer, the line and WRITE_REFUSED. A write into the views or an unassigned address is refused so.
The event latch and mask (R176, R181): a write to 0x520 or 0x522 clears the named events alone, a write to
0x521 or 0x523 replaces the mask's flags there, and ATTN follows: asserted exactly while an event is both
latched and enabled. -/
def Obligations.ServiceWrites : Prop :=
  (∀ (s : State) (a : Word) (v : Byte), s.ps.op = .none → s.sp.parser = [] → s.sp.breakHeld = false →
      s.ps.image.wf = true →
      (∀ c, (c = .poke a v ∨ (c = .pokeOn v ∧ a = s.sp.pointer + 1)) →
        (a.toNat < 256 → planPermitted s = true → ∃ t, exec c s = .next t
          ∧ (∀ b, t.ps.image.read b = if b = a.toNat then v else s.ps.image.read b)
          ∧ t.ps.image.wf = true ∧ t.ps.adopted = false ∧ t.ps.fingerprint = none
          ∧ t.ps.plan = s.ps.plan ∧ t.ps.outcome = s.ps.outcome
          ∧ t.sp = { s.sp with pointer := a, echo := some v, reply := [], secondRead := false }
          ∧ t.lau = s.lau ∧ t.pt = s.pt ∧ t.ci = s.ci ∧ t.phc = s.phc ∧ t.su = s.su ∧ t.pu = s.pu
          ∧ t.tm = s.tm)
        ∧ ((a.toNat < 256 ∧ planPermitted s = false)
            ∨ (256 ≤ a.toNat ∧ a.toNat < 0x520) ∨ 0x524 ≤ a.toNat →
          exec c s = .next { s with sp := { s.sp with
            pointer := a, echo := some v, reply := [], secondRead := false
            latch := s.sp.latch ||| 0x100 } })))
  ∧ (∀ (s : State) (v : Byte), s.ps.op = .none → s.sp.parser = [] → s.sp.breakHeld = false →
      (∃ t, exec (.poke 0x520 v) s = .next t ∧ t.sp.mask = s.sp.mask
        ∧ (∀ i : Nat, i < 8 → t.sp.latch.getLsbD i = (s.sp.latch.getLsbD i && !v.getLsbD i))
        ∧ t.sp.latch.getLsbD 8 = s.sp.latch.getLsbD 8)
      ∧ (∃ t, exec (.poke 0x521 v) s = .next t ∧ t.sp.latch = s.sp.latch
        ∧ (∀ i : Nat, i < 8 → t.sp.mask.getLsbD i = v.getLsbD i)
        ∧ t.sp.mask.getLsbD 8 = s.sp.mask.getLsbD 8)
      ∧ (∃ t, exec (.poke 0x522 v) s = .next t ∧ t.sp.mask = s.sp.mask
        ∧ (∀ i : Nat, i < 8 → t.sp.latch.getLsbD i = s.sp.latch.getLsbD i)
        ∧ t.sp.latch.getLsbD 8 = (s.sp.latch.getLsbD 8 && !v.getLsbD 0))
      ∧ (∃ t, exec (.poke 0x523 v) s = .next t ∧ t.sp.latch = s.sp.latch
        ∧ (∀ i : Nat, i < 8 → t.sp.mask.getLsbD i = s.sp.mask.getLsbD i)
        ∧ t.sp.mask.getLsbD 8 = v.getLsbD 0)
      ∧ (attention s = true ↔ ∃ i : Nat, i < 9 ∧ s.sp.latch.getLsbD i = true
          ∧ s.sp.mask.getLsbD i = true))

/-- The bytes of a command, received one by one, act as the command (DESIGN CHOICE, log entry 16: the row
and its bytes are one event): PEEK's three bytes end as PEEK does, and each is echoed (R173, R175).
The line's other events (R173, R174, R175): a code that names no command is echoed and leaves the parser
idle; a framing error is not echoed and discards the command in progress; a break discards it too, ends the
reply after the bytes that have gone out, and until it is echoed no byte is taken (DEDUCED, log entry 17);
none of them touches another block. -/
def Obligations.ServiceLineEvents : Prop :=
  (∀ (s : State) (hi lo : Byte), s.sp.parser = [] → s.sp.breakHeld = false →
      ∃ s1 s2, exec (.serviceByteReceived 0x11) s = .next s1
        ∧ s1 = { s with sp := { s.sp with
            parser := [0x11], echo := some 0x11, reply := [], secondRead := false } }
        ∧ exec (.serviceByteReceived hi) s1 = .next s2
        ∧ s2 = { s with sp := { s.sp with
            parser := [0x11, hi], echo := some hi, reply := [], secondRead := false } }
        ∧ exec (.serviceByteReceived lo) s2 = exec (.peek (hi ++ lo)) s)
  ∧ (∀ (s : State) (code : Byte) (sent : Nat),
      (serviceCodes.contains code = false → s.sp.parser = [] → s.sp.breakHeld = false →
        exec (.unknownCommandCode code) s = .next { s with
          sp := { s.sp with parser := [], echo := some code, reply := [], secondRead := false } })
      ∧ (s.sp.breakHeld = false → exec .framingError s = .next { s with
          sp := { s.sp with parser := [], echo := none, reply := [], secondRead := false } })
      ∧ (∃ t, exec (.lineBreak sent) s = .next t
          ∧ t = { s with
              sp := { s.sp with
                parser := [], reply := s.sp.reply.take sent, breakHeld := true, secondRead := false } }
          ∧ (∀ b, exec (.serviceByteReceived b) t = .next t)
          ∧ exec .breakEcho t = .next { t with sp := { t.sp with breakHeld := false } }))

/-! ### Laws that every step keeps -/

/-- The law of R11: the two lanes and the transmitter hold at most one frame of each kind where it belongs;
on an idle line a waiting frame has its deferral running, and the transmitter sends on a busy line only
(R13, R14). -/
def Obligations.StepKeepsLanes : Prop :=
  ∀ s t : State, LanesLaw s.lau → LineLaw s → step s = .next t →
    LanesLaw t.lau ∧ LineLaw t

/-- Phase, halt record, plan in force and drive lines agree after every step: HALTED with the record (R137),
UNPLANNED without a plan (R158), and the drive lines asserted in the moving phases alone, with demand 0
outside them (R52). The words on their way to the drive stay even, one waits only behind a transfer, and the
drive is left holding the node's demand (R51). -/
def Obligations.StepKeepsPhaseLaw : Prop :=
  ∀ s t : State, PhaseLaw s → step s = .next t → PhaseLaw t ∧ (DriveWordLaw s → DriveWordLaw t)

/-- In UNPLANNED the node holds no frame, session, press, running timer of the plan, flag or listed entry (R18,
R25, R60, R97, R98); flags are held by a halted node alone, and a TRAVEL_LIMIT side with its flag alone
(R138, R152). -/
def Obligations.StepKeepsQuietAndFlags : Prop :=
  ∀ s t : State, PhaseLaw s → UnplannedQuiet s → FlagsLaw s → step s = .next t →
    UnplannedQuiet t ∧ FlagsLaw t

/-- The Peer Table obeys R22, R24 and R25 after every step of a node that has a plan in force exactly outside
UNPLANNED (R158). -/
def Obligations.StepKeepsPeerLaw : Prop :=
  ∀ s t : State, PlanAgrees s → PeerLaw s → step s = .next t → PeerLaw t

/-- No column moves, or waits in CONTACT, without a session of its direction; a HELD press is that of the
session held (R66 to R73, R85). -/
def Obligations.StepKeepsMotionLaw : Prop :=
  ∀ s t : State, PhaseLaw s → MotionLaw s → step s = .next t → MotionLaw t

/-- The load runs stay in range with contact and unload exclusive (R46), the pace counters stay in theirs
(R121, R128), and sync state, contact timer and rest height are held in their phases alone (R75, R128,
R146). -/
def Obligations.StepKeepsCounters : Prop :=
  ∀ s t : State, RunsLaw s.ci → PaceLaw s.pu → PhaseTimers s → step s = .next t →
    RunsLaw t.ci ∧ PaceLaw t.pu ∧ PhaseTimers t

/-- A plan in force is in range and the demand within 6,000 su (R111, R166); the plan image stays in canonical
form, the adopted flag goes with the fingerprint and a plan in force, and an adopted image passes every
check and holds that plan (R158, R162, R167, R169). -/
def Obligations.StepKeepsPlanStore : Prop :=
  ∀ s t : State, PlanLaw s → ImageLaw s → AdoptedLaw s → AdoptedImageLaw s → step s = .next t →
    PlanLaw t ∧ ImageLaw t ∧ AdoptedLaw t ∧ AdoptedImageLaw t
end

