-- ==== Sys2Proof/Laws/State.lean ====
section
/-! SUPPORT. One lemma per field per update of State: what an update of one block reads back, and that it
leaves every other field. -/

namespace Sys2Proof.Machine

open Sys2Proof

section withPending

variable (s : State) (q : List Instr)

@[simp] theorem State.withPending_pending : (s.withPending q).pending = q := rfl
@[simp] theorem State.withPending_lau : (s.withPending q).lau = s.lau := rfl
@[simp] theorem State.withPending_pt : (s.withPending q).pt = s.pt := rfl
@[simp] theorem State.withPending_ci : (s.withPending q).ci = s.ci := rfl
@[simp] theorem State.withPending_phc : (s.withPending q).phc = s.phc := rfl
@[simp] theorem State.withPending_su : (s.withPending q).su = s.su := rfl
@[simp] theorem State.withPending_pu : (s.withPending q).pu = s.pu := rfl
@[simp] theorem State.withPending_tm : (s.withPending q).tm = s.tm := rfl
@[simp] theorem State.withPending_ps : (s.withPending q).ps = s.ps := rfl
@[simp] theorem State.withPending_sp : (s.withPending q).sp = s.sp := rfl
@[simp] theorem State.withPending_freeCount : (s.withPending q).freeCount = s.freeCount := rfl

end withPending

section withLau

variable (s : State) (b : LineAccess)

@[simp] theorem State.withLau_pending : (s.withLau b).pending = s.pending := rfl
@[simp] theorem State.withLau_lau : (s.withLau b).lau = b := rfl
@[simp] theorem State.withLau_pt : (s.withLau b).pt = s.pt := rfl
@[simp] theorem State.withLau_ci : (s.withLau b).ci = s.ci := rfl
@[simp] theorem State.withLau_phc : (s.withLau b).phc = s.phc := rfl
@[simp] theorem State.withLau_su : (s.withLau b).su = s.su := rfl
@[simp] theorem State.withLau_pu : (s.withLau b).pu = s.pu := rfl
@[simp] theorem State.withLau_tm : (s.withLau b).tm = s.tm := rfl
@[simp] theorem State.withLau_ps : (s.withLau b).ps = s.ps := rfl
@[simp] theorem State.withLau_sp : (s.withLau b).sp = s.sp := rfl
@[simp] theorem State.withLau_freeCount : (s.withLau b).freeCount = s.freeCount := rfl

end withLau

section withPt

variable (s : State) (b : PeerTable)

@[simp] theorem State.withPt_pending : (s.withPt b).pending = s.pending := rfl
@[simp] theorem State.withPt_lau : (s.withPt b).lau = s.lau := rfl
@[simp] theorem State.withPt_pt : (s.withPt b).pt = b := rfl
@[simp] theorem State.withPt_ci : (s.withPt b).ci = s.ci := rfl
@[simp] theorem State.withPt_phc : (s.withPt b).phc = s.phc := rfl
@[simp] theorem State.withPt_su : (s.withPt b).su = s.su := rfl
@[simp] theorem State.withPt_pu : (s.withPt b).pu = s.pu := rfl
@[simp] theorem State.withPt_tm : (s.withPt b).tm = s.tm := rfl
@[simp] theorem State.withPt_ps : (s.withPt b).ps = s.ps := rfl
@[simp] theorem State.withPt_sp : (s.withPt b).sp = s.sp := rfl
@[simp] theorem State.withPt_freeCount : (s.withPt b).freeCount = s.freeCount := rfl

end withPt

section withCi

variable (s : State) (b : ColumnInterface)

@[simp] theorem State.withCi_pending : (s.withCi b).pending = s.pending := rfl
@[simp] theorem State.withCi_lau : (s.withCi b).lau = s.lau := rfl
@[simp] theorem State.withCi_pt : (s.withCi b).pt = s.pt := rfl
@[simp] theorem State.withCi_ci : (s.withCi b).ci = b := rfl
@[simp] theorem State.withCi_phc : (s.withCi b).phc = s.phc := rfl
@[simp] theorem State.withCi_su : (s.withCi b).su = s.su := rfl
@[simp] theorem State.withCi_pu : (s.withCi b).pu = s.pu := rfl
@[simp] theorem State.withCi_tm : (s.withCi b).tm = s.tm := rfl
@[simp] theorem State.withCi_ps : (s.withCi b).ps = s.ps := rfl
@[simp] theorem State.withCi_sp : (s.withCi b).sp = s.sp := rfl
@[simp] theorem State.withCi_freeCount : (s.withCi b).freeCount = s.freeCount := rfl

end withCi

section withPhc

variable (s : State) (b : PhaseController)

@[simp] theorem State.withPhc_pending : (s.withPhc b).pending = s.pending := rfl
@[simp] theorem State.withPhc_lau : (s.withPhc b).lau = s.lau := rfl
@[simp] theorem State.withPhc_pt : (s.withPhc b).pt = s.pt := rfl
@[simp] theorem State.withPhc_ci : (s.withPhc b).ci = s.ci := rfl
@[simp] theorem State.withPhc_phc : (s.withPhc b).phc = b := rfl
@[simp] theorem State.withPhc_su : (s.withPhc b).su = s.su := rfl
@[simp] theorem State.withPhc_pu : (s.withPhc b).pu = s.pu := rfl
@[simp] theorem State.withPhc_tm : (s.withPhc b).tm = s.tm := rfl
@[simp] theorem State.withPhc_ps : (s.withPhc b).ps = s.ps := rfl
@[simp] theorem State.withPhc_sp : (s.withPhc b).sp = s.sp := rfl
@[simp] theorem State.withPhc_freeCount : (s.withPhc b).freeCount = s.freeCount := rfl

end withPhc

section withSu

variable (s : State) (b : SessionUnit)

@[simp] theorem State.withSu_pending : (s.withSu b).pending = s.pending := rfl
@[simp] theorem State.withSu_lau : (s.withSu b).lau = s.lau := rfl
@[simp] theorem State.withSu_pt : (s.withSu b).pt = s.pt := rfl
@[simp] theorem State.withSu_ci : (s.withSu b).ci = s.ci := rfl
@[simp] theorem State.withSu_phc : (s.withSu b).phc = s.phc := rfl
@[simp] theorem State.withSu_su : (s.withSu b).su = b := rfl
@[simp] theorem State.withSu_pu : (s.withSu b).pu = s.pu := rfl
@[simp] theorem State.withSu_tm : (s.withSu b).tm = s.tm := rfl
@[simp] theorem State.withSu_ps : (s.withSu b).ps = s.ps := rfl
@[simp] theorem State.withSu_sp : (s.withSu b).sp = s.sp := rfl
@[simp] theorem State.withSu_freeCount : (s.withSu b).freeCount = s.freeCount := rfl

end withSu

section withPu

variable (s : State) (b : PaceUnit)

@[simp] theorem State.withPu_pending : (s.withPu b).pending = s.pending := rfl
@[simp] theorem State.withPu_lau : (s.withPu b).lau = s.lau := rfl
@[simp] theorem State.withPu_pt : (s.withPu b).pt = s.pt := rfl
@[simp] theorem State.withPu_ci : (s.withPu b).ci = s.ci := rfl
@[simp] theorem State.withPu_phc : (s.withPu b).phc = s.phc := rfl
@[simp] theorem State.withPu_su : (s.withPu b).su = s.su := rfl
@[simp] theorem State.withPu_pu : (s.withPu b).pu = b := rfl
@[simp] theorem State.withPu_tm : (s.withPu b).tm = s.tm := rfl
@[simp] theorem State.withPu_ps : (s.withPu b).ps = s.ps := rfl
@[simp] theorem State.withPu_sp : (s.withPu b).sp = s.sp := rfl
@[simp] theorem State.withPu_freeCount : (s.withPu b).freeCount = s.freeCount := rfl

end withPu

section withTm

variable (s : State) (b : TripMonitor)

@[simp] theorem State.withTm_pending : (s.withTm b).pending = s.pending := rfl
@[simp] theorem State.withTm_lau : (s.withTm b).lau = s.lau := rfl
@[simp] theorem State.withTm_pt : (s.withTm b).pt = s.pt := rfl
@[simp] theorem State.withTm_ci : (s.withTm b).ci = s.ci := rfl
@[simp] theorem State.withTm_phc : (s.withTm b).phc = s.phc := rfl
@[simp] theorem State.withTm_su : (s.withTm b).su = s.su := rfl
@[simp] theorem State.withTm_pu : (s.withTm b).pu = s.pu := rfl
@[simp] theorem State.withTm_tm : (s.withTm b).tm = b := rfl
@[simp] theorem State.withTm_ps : (s.withTm b).ps = s.ps := rfl
@[simp] theorem State.withTm_sp : (s.withTm b).sp = s.sp := rfl
@[simp] theorem State.withTm_freeCount : (s.withTm b).freeCount = s.freeCount := rfl

end withTm

section withPs

variable (s : State) (b : PlanStore)

@[simp] theorem State.withPs_pending : (s.withPs b).pending = s.pending := rfl
@[simp] theorem State.withPs_lau : (s.withPs b).lau = s.lau := rfl
@[simp] theorem State.withPs_pt : (s.withPs b).pt = s.pt := rfl
@[simp] theorem State.withPs_ci : (s.withPs b).ci = s.ci := rfl
@[simp] theorem State.withPs_phc : (s.withPs b).phc = s.phc := rfl
@[simp] theorem State.withPs_su : (s.withPs b).su = s.su := rfl
@[simp] theorem State.withPs_pu : (s.withPs b).pu = s.pu := rfl
@[simp] theorem State.withPs_tm : (s.withPs b).tm = s.tm := rfl
@[simp] theorem State.withPs_ps : (s.withPs b).ps = b := rfl
@[simp] theorem State.withPs_sp : (s.withPs b).sp = s.sp := rfl
@[simp] theorem State.withPs_freeCount : (s.withPs b).freeCount = s.freeCount := rfl

end withPs

section withSp

variable (s : State) (b : ServicePort)

@[simp] theorem State.withSp_pending : (s.withSp b).pending = s.pending := rfl
@[simp] theorem State.withSp_lau : (s.withSp b).lau = s.lau := rfl
@[simp] theorem State.withSp_pt : (s.withSp b).pt = s.pt := rfl
@[simp] theorem State.withSp_ci : (s.withSp b).ci = s.ci := rfl
@[simp] theorem State.withSp_phc : (s.withSp b).phc = s.phc := rfl
@[simp] theorem State.withSp_su : (s.withSp b).su = s.su := rfl
@[simp] theorem State.withSp_pu : (s.withSp b).pu = s.pu := rfl
@[simp] theorem State.withSp_tm : (s.withSp b).tm = s.tm := rfl
@[simp] theorem State.withSp_ps : (s.withSp b).ps = s.ps := rfl
@[simp] theorem State.withSp_sp : (s.withSp b).sp = b := rfl
@[simp] theorem State.withSp_freeCount : (s.withSp b).freeCount = s.freeCount := rfl

end withSp

end Sys2Proof.Machine
end

