-- ==== Sys2Proof/Laws/Frame.lean ====
section
/-! SUPPORT. What each shared operation leaves as it was: the blocks it does not touch, and of the Column
Interface all that the column's lines delivered. -/

namespace Sys2Proof.Machine

open Sys2Proof

/-- The Column Interface without its outputs and without h_c: what the column's lines delivered. -/
def measured (ci : ColumnInterface) : ColumnInterface :=
  { ci with
    transfer := none, nextWord := none, driveEnable := false, brakeRelease := false,
    driveNotReady := false, contactHeight := none }

section outputs

variable (ci : ColumnInterface) (w : Word) (b : Bool) (h : Option Word)

@[simp] theorem measured_sendWord : measured (sendWord w ci) = measured ci := by
  unfold sendWord; split <;> rfl

@[simp] theorem measured_setDrive : measured (setDrive b ci) = measured ci := rfl

@[simp] theorem measured_contactHeight : measured { ci with contactHeight := h } = measured ci := rfl

@[simp] theorem measured_notReady : measured { ci with driveNotReady := b } = measured ci := rfl

end outputs

/-- A list of flags set one after the other touches the Trip Monitor alone. -/
theorem foldl_setFlag (cs : List (Cause × Option TravelSide)) (s : State) :
    ∃ tm, cs.foldl (fun t c => setFlag c.1 c.2 t) s = s.withTm tm := by
  induction cs generalizing s with
  | nil => exact ⟨s.tm, rfl⟩
  | cons c cs ih => exact ih _

section foldl

variable (cs : List (Cause × Option TravelSide)) (s : State)

@[simp] theorem foldl_setFlag_pending :
    (cs.foldl (fun t c => setFlag c.1 c.2 t) s).pending = s.pending := by
  obtain ⟨_, h⟩ := foldl_setFlag cs s; simp [h]

@[simp] theorem foldl_setFlag_lau :
    (cs.foldl (fun t c => setFlag c.1 c.2 t) s).lau = s.lau := by
  obtain ⟨_, h⟩ := foldl_setFlag cs s; simp [h]

@[simp] theorem foldl_setFlag_pt :
    (cs.foldl (fun t c => setFlag c.1 c.2 t) s).pt = s.pt := by
  obtain ⟨_, h⟩ := foldl_setFlag cs s; simp [h]

@[simp] theorem foldl_setFlag_ci :
    (cs.foldl (fun t c => setFlag c.1 c.2 t) s).ci = s.ci := by
  obtain ⟨_, h⟩ := foldl_setFlag cs s; simp [h]

@[simp] theorem foldl_setFlag_phc :
    (cs.foldl (fun t c => setFlag c.1 c.2 t) s).phc = s.phc := by
  obtain ⟨_, h⟩ := foldl_setFlag cs s; simp [h]

@[simp] theorem foldl_setFlag_su :
    (cs.foldl (fun t c => setFlag c.1 c.2 t) s).su = s.su := by
  obtain ⟨_, h⟩ := foldl_setFlag cs s; simp [h]

@[simp] theorem foldl_setFlag_pu :
    (cs.foldl (fun t c => setFlag c.1 c.2 t) s).pu = s.pu := by
  obtain ⟨_, h⟩ := foldl_setFlag cs s; simp [h]

@[simp] theorem foldl_setFlag_ps :
    (cs.foldl (fun t c => setFlag c.1 c.2 t) s).ps = s.ps := by
  obtain ⟨_, h⟩ := foldl_setFlag cs s; simp [h]

@[simp] theorem foldl_setFlag_sp :
    (cs.foldl (fun t c => setFlag c.1 c.2 t) s).sp = s.sp := by
  obtain ⟨_, h⟩ := foldl_setFlag cs s; simp [h]

@[simp] theorem foldl_setFlag_freeCount :
    (cs.foldl (fun t c => setFlag c.1 c.2 t) s).freeCount = s.freeCount := by
  obtain ⟨_, h⟩ := foldl_setFlag cs s; simp [h]

end foldl

section latchEvent

variable (e : Event) (s : State)

@[simp] theorem latchEvent_pending : (latchEvent e s).pending = s.pending := rfl
@[simp] theorem latchEvent_lau : (latchEvent e s).lau = s.lau := rfl
@[simp] theorem latchEvent_pt : (latchEvent e s).pt = s.pt := rfl
@[simp] theorem latchEvent_ci : (latchEvent e s).ci = s.ci := rfl
@[simp] theorem latchEvent_phc : (latchEvent e s).phc = s.phc := rfl
@[simp] theorem latchEvent_su : (latchEvent e s).su = s.su := rfl
@[simp] theorem latchEvent_pu : (latchEvent e s).pu = s.pu := rfl
@[simp] theorem latchEvent_tm : (latchEvent e s).tm = s.tm := rfl
@[simp] theorem latchEvent_ps : (latchEvent e s).ps = s.ps := rfl
@[simp] theorem latchEvent_freeCount : (latchEvent e s).freeCount = s.freeCount := rfl

end latchEvent

section latchWhen

variable (b : Bool) (e : Event) (s : State)

@[simp] theorem latchWhen_pending : (latchWhen b e s).pending = s.pending := by
  unfold latchWhen; (repeat' split) <;> simp
@[simp] theorem latchWhen_lau : (latchWhen b e s).lau = s.lau := by
  unfold latchWhen; (repeat' split) <;> simp
@[simp] theorem latchWhen_pt : (latchWhen b e s).pt = s.pt := by
  unfold latchWhen; (repeat' split) <;> simp
@[simp] theorem latchWhen_ci : (latchWhen b e s).ci = s.ci := by
  unfold latchWhen; (repeat' split) <;> simp
@[simp] theorem latchWhen_phc : (latchWhen b e s).phc = s.phc := by
  unfold latchWhen; (repeat' split) <;> simp
@[simp] theorem latchWhen_su : (latchWhen b e s).su = s.su := by
  unfold latchWhen; (repeat' split) <;> simp
@[simp] theorem latchWhen_pu : (latchWhen b e s).pu = s.pu := by
  unfold latchWhen; (repeat' split) <;> simp
@[simp] theorem latchWhen_tm : (latchWhen b e s).tm = s.tm := by
  unfold latchWhen; (repeat' split) <;> simp
@[simp] theorem latchWhen_ps : (latchWhen b e s).ps = s.ps := by
  unfold latchWhen; (repeat' split) <;> simp
@[simp] theorem latchWhen_freeCount : (latchWhen b e s).freeCount = s.freeCount := by
  unfold latchWhen; (repeat' split) <;> simp

end latchWhen

section compose

variable (f : Frame) (s : State)

@[simp] theorem compose_pending : (compose f s).pending = s.pending := by
  unfold compose; (repeat' split) <;> simp
@[simp] theorem compose_pt : (compose f s).pt = s.pt := by
  unfold compose; (repeat' split) <;> simp
@[simp] theorem compose_ci : (compose f s).ci = s.ci := by
  unfold compose; (repeat' split) <;> simp
@[simp] theorem compose_phc : (compose f s).phc = s.phc := by
  unfold compose; (repeat' split) <;> simp
@[simp] theorem compose_su : (compose f s).su = s.su := by
  unfold compose; (repeat' split) <;> simp
@[simp] theorem compose_pu : (compose f s).pu = s.pu := by
  unfold compose; (repeat' split) <;> simp
@[simp] theorem compose_tm : (compose f s).tm = s.tm := by
  unfold compose; (repeat' split) <;> simp
@[simp] theorem compose_ps : (compose f s).ps = s.ps := by
  unfold compose; (repeat' split) <;> simp
@[simp] theorem compose_sp : (compose f s).sp = s.sp := by
  unfold compose; (repeat' split) <;> simp
@[simp] theorem compose_freeCount : (compose f s).freeCount = s.freeCount := by
  unfold compose; (repeat' split) <;> simp

end compose

section composeMotion

variable (m : Motion) (s : State)

@[simp] theorem composeMotion_pending : (composeMotion m s).pending = s.pending := by simp [composeMotion]
@[simp] theorem composeMotion_pt : (composeMotion m s).pt = s.pt := by simp [composeMotion]
@[simp] theorem composeMotion_ci : (composeMotion m s).ci = s.ci := by simp [composeMotion]
@[simp] theorem composeMotion_phc : (composeMotion m s).phc = s.phc := by simp [composeMotion]
@[simp] theorem composeMotion_su : (composeMotion m s).su = s.su := by simp [composeMotion]
@[simp] theorem composeMotion_pu : (composeMotion m s).pu = s.pu := by simp [composeMotion]
@[simp] theorem composeMotion_tm : (composeMotion m s).tm = s.tm := by simp [composeMotion]
@[simp] theorem composeMotion_ps : (composeMotion m s).ps = s.ps := by simp [composeMotion]
@[simp] theorem composeMotion_sp : (composeMotion m s).sp = s.sp := by simp [composeMotion]
@[simp] theorem composeMotion_freeCount : (composeMotion m s).freeCount = s.freeCount := by simp [composeMotion]

end composeMotion

section lineIdle

variable (n : NodeNum) (s : State)

@[simp] theorem lineIdle_pending : (lineIdle n s).pending = s.pending := by simp [lineIdle]
@[simp] theorem lineIdle_pt : (lineIdle n s).pt = s.pt := by simp [lineIdle]
@[simp] theorem lineIdle_ci : (lineIdle n s).ci = s.ci := by simp [lineIdle]
@[simp] theorem lineIdle_phc : (lineIdle n s).phc = s.phc := by simp [lineIdle]
@[simp] theorem lineIdle_su : (lineIdle n s).su = s.su := by simp [lineIdle]
@[simp] theorem lineIdle_pu : (lineIdle n s).pu = s.pu := by simp [lineIdle]
@[simp] theorem lineIdle_tm : (lineIdle n s).tm = s.tm := by simp [lineIdle]
@[simp] theorem lineIdle_ps : (lineIdle n s).ps = s.ps := by simp [lineIdle]
@[simp] theorem lineIdle_sp : (lineIdle n s).sp = s.sp := by simp [lineIdle]
@[simp] theorem lineIdle_freeCount : (lineIdle n s).freeCount = s.freeCount := by simp [lineIdle]

end lineIdle

section safeDrive

variable (s : State)

@[simp] theorem safeDrive_pending : (safeDrive s).pending = s.pending := by simp [safeDrive]
@[simp] theorem safeDrive_lau : (safeDrive s).lau = s.lau := by simp [safeDrive]
@[simp] theorem safeDrive_pt : (safeDrive s).pt = s.pt := by simp [safeDrive]
@[simp] theorem safeDrive_phc : (safeDrive s).phc = s.phc := by simp [safeDrive]
@[simp] theorem safeDrive_su : (safeDrive s).su = s.su := by simp [safeDrive]
@[simp] theorem safeDrive_tm : (safeDrive s).tm = s.tm := by simp [safeDrive]
@[simp] theorem safeDrive_ps : (safeDrive s).ps = s.ps := by simp [safeDrive]
@[simp] theorem safeDrive_sp : (safeDrive s).sp = s.sp := by simp [safeDrive]
@[simp] theorem safeDrive_freeCount : (safeDrive s).freeCount = s.freeCount := by simp [safeDrive]
@[simp] theorem safeDrive_measured : measured (safeDrive s).ci = measured s.ci := by simp [safeDrive]

end safeDrive

section setFlag

variable (c : Cause) (d : Option TravelSide) (s : State)

@[simp] theorem setFlag_pending : (setFlag c d s).pending = s.pending := by simp [setFlag]
@[simp] theorem setFlag_lau : (setFlag c d s).lau = s.lau := by simp [setFlag]
@[simp] theorem setFlag_pt : (setFlag c d s).pt = s.pt := by simp [setFlag]
@[simp] theorem setFlag_ci : (setFlag c d s).ci = s.ci := by simp [setFlag]
@[simp] theorem setFlag_phc : (setFlag c d s).phc = s.phc := by simp [setFlag]
@[simp] theorem setFlag_su : (setFlag c d s).su = s.su := by simp [setFlag]
@[simp] theorem setFlag_pu : (setFlag c d s).pu = s.pu := by simp [setFlag]
@[simp] theorem setFlag_ps : (setFlag c d s).ps = s.ps := by simp [setFlag]
@[simp] theorem setFlag_sp : (setFlag c d s).sp = s.sp := by simp [setFlag]
@[simp] theorem setFlag_freeCount : (setFlag c d s).freeCount = s.freeCount := by simp [setFlag]

end setFlag

section enterPhase

variable (p : Phase) (s : State)

@[simp] theorem enterPhase_pending : (enterPhase p s).pending = s.pending := by simp [enterPhase]
@[simp] theorem enterPhase_lau : (enterPhase p s).lau = s.lau := by simp [enterPhase]
@[simp] theorem enterPhase_pt : (enterPhase p s).pt = s.pt := by simp [enterPhase]
@[simp] theorem enterPhase_ci : (enterPhase p s).ci = s.ci := by simp [enterPhase]
@[simp] theorem enterPhase_su : (enterPhase p s).su = s.su := by simp [enterPhase]
@[simp] theorem enterPhase_ps : (enterPhase p s).ps = s.ps := by simp [enterPhase]
@[simp] theorem enterPhase_freeCount : (enterPhase p s).freeCount = s.freeCount := by simp [enterPhase]

end enterPhase

section haltOrder

variable (s : State)

@[simp] theorem haltOrder_pending : (haltOrder s).pending = s.pending := by
  unfold haltOrder; dsimp only; (repeat' split) <;> simp
@[simp] theorem haltOrder_lau : (haltOrder s).lau = s.lau := by
  unfold haltOrder; dsimp only; (repeat' split) <;> simp
@[simp] theorem haltOrder_pt : (haltOrder s).pt = s.pt := by
  unfold haltOrder; dsimp only; (repeat' split) <;> simp
@[simp] theorem haltOrder_su : (haltOrder s).su = s.su := by
  unfold haltOrder; dsimp only; (repeat' split) <;> simp
@[simp] theorem haltOrder_ps : (haltOrder s).ps = s.ps := by
  unfold haltOrder; dsimp only; (repeat' split) <;> simp
@[simp] theorem haltOrder_freeCount : (haltOrder s).freeCount = s.freeCount := by
  unfold haltOrder; dsimp only; (repeat' split) <;> simp
@[simp] theorem haltOrder_measured : measured (haltOrder s).ci = measured s.ci := by
  unfold haltOrder; dsimp only; (repeat' split) <;> simp

end haltOrder

section composeEndOf

variable (r : Press) (s : State)

@[simp] theorem composeEndOf_pending : (composeEndOf r s).pending = s.pending := by
  unfold composeEndOf; (repeat' split) <;> simp
@[simp] theorem composeEndOf_pt : (composeEndOf r s).pt = s.pt := by
  unfold composeEndOf; (repeat' split) <;> simp
@[simp] theorem composeEndOf_ci : (composeEndOf r s).ci = s.ci := by
  unfold composeEndOf; (repeat' split) <;> simp
@[simp] theorem composeEndOf_phc : (composeEndOf r s).phc = s.phc := by
  unfold composeEndOf; (repeat' split) <;> simp
@[simp] theorem composeEndOf_su : (composeEndOf r s).su = s.su := by
  unfold composeEndOf; (repeat' split) <;> simp
@[simp] theorem composeEndOf_pu : (composeEndOf r s).pu = s.pu := by
  unfold composeEndOf; (repeat' split) <;> simp
@[simp] theorem composeEndOf_tm : (composeEndOf r s).tm = s.tm := by
  unfold composeEndOf; (repeat' split) <;> simp
@[simp] theorem composeEndOf_ps : (composeEndOf r s).ps = s.ps := by
  unfold composeEndOf; (repeat' split) <;> simp
@[simp] theorem composeEndOf_sp : (composeEndOf r s).sp = s.sp := by
  unfold composeEndOf; (repeat' split) <;> simp
@[simp] theorem composeEndOf_freeCount : (composeEndOf r s).freeCount = s.freeCount := by
  unfold composeEndOf; (repeat' split) <;> simp

end composeEndOf

section endSessionInHalt

variable (s : State)

@[simp] theorem endSessionInHalt_pending : (endSessionInHalt s).pending = s.pending := by simp [endSessionInHalt]
@[simp] theorem endSessionInHalt_pt : (endSessionInHalt s).pt = s.pt := by simp [endSessionInHalt]
@[simp] theorem endSessionInHalt_ci : (endSessionInHalt s).ci = s.ci := by simp [endSessionInHalt]
@[simp] theorem endSessionInHalt_phc : (endSessionInHalt s).phc = s.phc := by simp [endSessionInHalt]
@[simp] theorem endSessionInHalt_pu : (endSessionInHalt s).pu = s.pu := by simp [endSessionInHalt]
@[simp] theorem endSessionInHalt_tm : (endSessionInHalt s).tm = s.tm := by simp [endSessionInHalt]
@[simp] theorem endSessionInHalt_ps : (endSessionInHalt s).ps = s.ps := by simp [endSessionInHalt]
@[simp] theorem endSessionInHalt_sp : (endSessionInHalt s).sp = s.sp := by simp [endSessionInHalt]
@[simp] theorem endSessionInHalt_freeCount : (endSessionInHalt s).freeCount = s.freeCount := by simp [endSessionInHalt]

end endSessionInHalt

section applyHalt

variable (r : HaltRecord) (s : State)

@[simp] theorem applyHalt_pending : (applyHalt r s).pending = s.pending := by simp [applyHalt]
@[simp] theorem applyHalt_pt : (applyHalt r s).pt = s.pt := by simp [applyHalt]
@[simp] theorem applyHalt_ps : (applyHalt r s).ps = s.ps := by simp [applyHalt]
@[simp] theorem applyHalt_freeCount : (applyHalt r s).freeCount = s.freeCount := by simp [applyHalt]
@[simp] theorem applyHalt_measured : measured (applyHalt r s).ci = measured s.ci := by simp [applyHalt]

end applyHalt

section localHalt

variable (c : Cause) (n : Option NodeNum) (s : State)

@[simp] theorem localHalt_pending : (localHalt c n s).pending = s.pending := by simp [localHalt]
@[simp] theorem localHalt_pt : (localHalt c n s).pt = s.pt := by simp [localHalt]
@[simp] theorem localHalt_ps : (localHalt c n s).ps = s.ps := by simp [localHalt]
@[simp] theorem localHalt_freeCount : (localHalt c n s).freeCount = s.freeCount := by simp [localHalt]
@[simp] theorem localHalt_measured : measured (localHalt c n s).ci = measured s.ci := by simp [localHalt]

end localHalt

section remoteHalt

variable (c : Cause) (n : NodeNum) (w : Word) (q : Option NodeNum) (s : State)

@[simp] theorem remoteHalt_pending : (remoteHalt c n w q s).pending = s.pending := by simp [remoteHalt]
@[simp] theorem remoteHalt_pt : (remoteHalt c n w q s).pt = s.pt := by simp [remoteHalt]
@[simp] theorem remoteHalt_ps : (remoteHalt c n w q s).ps = s.ps := by simp [remoteHalt]
@[simp] theorem remoteHalt_freeCount : (remoteHalt c n w q s).freeCount = s.freeCount := by simp [remoteHalt]
@[simp] theorem remoteHalt_measured : measured (remoteHalt c n w q s).ci = measured s.ci := by simp [remoteHalt]

end remoteHalt

section trip

variable (c : Cause) (d : Option TravelSide) (n : Option NodeNum) (s : State)

@[simp] theorem trip_pending : (trip c d n s).pending = s.pending := by
  unfold trip; (repeat' split) <;> simp
@[simp] theorem trip_pt : (trip c d n s).pt = s.pt := by
  unfold trip; (repeat' split) <;> simp
@[simp] theorem trip_ps : (trip c d n s).ps = s.ps := by
  unfold trip; (repeat' split) <;> simp
@[simp] theorem trip_freeCount : (trip c d n s).freeCount = s.freeCount := by
  unfold trip; (repeat' split) <;> simp
@[simp] theorem trip_measured : measured (trip c d n s).ci = measured s.ci := by
  unfold trip; (repeat' split) <;> simp

end trip

section tripAll

variable (cs : List (Cause × Option TravelSide)) (s : State)

@[simp] theorem tripAll_pending : (tripAll cs s).pending = s.pending := by
  induction cs generalizing s with
  | nil => rfl
  | cons c cs ih => exact (ih _).trans (by simp)
@[simp] theorem tripAll_pt : (tripAll cs s).pt = s.pt := by
  induction cs generalizing s with
  | nil => rfl
  | cons c cs ih => exact (ih _).trans (by simp)
@[simp] theorem tripAll_ps : (tripAll cs s).ps = s.ps := by
  induction cs generalizing s with
  | nil => rfl
  | cons c cs ih => exact (ih _).trans (by simp)
@[simp] theorem tripAll_freeCount : (tripAll cs s).freeCount = s.freeCount := by
  induction cs generalizing s with
  | nil => rfl
  | cons c cs ih => exact (ih _).trans (by simp)
@[simp] theorem tripAll_measured : measured (tripAll cs s).ci = measured s.ci := by
  induction cs generalizing s with
  | nil => rfl
  | cons c cs ih => exact (ih _).trans (by simp)

end tripAll

section columnAt

variable (old new : Phase) (s : State)

@[simp] theorem columnAt_pending : (columnAt old new s).pending = s.pending := by
  unfold columnAt; dsimp only; (repeat' split) <;> simp
@[simp] theorem columnAt_pt : (columnAt old new s).pt = s.pt := by
  unfold columnAt; dsimp only; (repeat' split) <;> simp
@[simp] theorem columnAt_ps : (columnAt old new s).ps = s.ps := by
  unfold columnAt; dsimp only; (repeat' split) <;> simp
@[simp] theorem columnAt_freeCount : (columnAt old new s).freeCount = s.freeCount := by
  unfold columnAt; dsimp only; (repeat' split) <;> simp
@[simp] theorem columnAt_measured : measured (columnAt old new s).ci = measured s.ci := by
  unfold columnAt; dsimp only; (repeat' split) <;> simp <;> rfl

end columnAt

section changePhase

variable (p : Phase) (s : State)

@[simp] theorem changePhase_pending : (changePhase p s).pending = s.pending := by
  unfold changePhase; dsimp only; (repeat' split) <;> simp
@[simp] theorem changePhase_pt : (changePhase p s).pt = s.pt := by
  unfold changePhase; dsimp only; (repeat' split) <;> simp
@[simp] theorem changePhase_ps : (changePhase p s).ps = s.ps := by
  unfold changePhase; dsimp only; (repeat' split) <;> simp
@[simp] theorem changePhase_freeCount : (changePhase p s).freeCount = s.freeCount := by
  unfold changePhase; dsimp only; (repeat' split) <;> simp
@[simp] theorem changePhase_measured : measured (changePhase p s).ci = measured s.ci := by
  unfold changePhase; dsimp only; (repeat' split) <;> simp

end changePhase

section setLastStop

variable (c : StopCause) (s : State)

@[simp] theorem setLastStop_pending : (setLastStop c s).pending = s.pending := by simp [setLastStop]
@[simp] theorem setLastStop_lau : (setLastStop c s).lau = s.lau := by simp [setLastStop]
@[simp] theorem setLastStop_pt : (setLastStop c s).pt = s.pt := by simp [setLastStop]
@[simp] theorem setLastStop_ci : (setLastStop c s).ci = s.ci := by simp [setLastStop]
@[simp] theorem setLastStop_su : (setLastStop c s).su = s.su := by simp [setLastStop]
@[simp] theorem setLastStop_pu : (setLastStop c s).pu = s.pu := by simp [setLastStop]
@[simp] theorem setLastStop_tm : (setLastStop c s).tm = s.tm := by simp [setLastStop]
@[simp] theorem setLastStop_ps : (setLastStop c s).ps = s.ps := by simp [setLastStop]
@[simp] theorem setLastStop_sp : (setLastStop c s).sp = s.sp := by simp [setLastStop]
@[simp] theorem setLastStop_freeCount : (setLastStop c s).freeCount = s.freeCount := by simp [setLastStop]

end setLastStop

section tellAccepted

variable (d : Direction) (s : State)

@[simp] theorem tellAccepted_pending : (tellAccepted d s).pending = s.pending := by
  unfold tellAccepted; (repeat' split) <;> simp
@[simp] theorem tellAccepted_pt : (tellAccepted d s).pt = s.pt := by
  unfold tellAccepted; (repeat' split) <;> simp
@[simp] theorem tellAccepted_ps : (tellAccepted d s).ps = s.ps := by
  unfold tellAccepted; (repeat' split) <;> simp
@[simp] theorem tellAccepted_freeCount : (tellAccepted d s).freeCount = s.freeCount := by
  unfold tellAccepted; (repeat' split) <;> simp
@[simp] theorem tellAccepted_measured : measured (tellAccepted d s).ci = measured s.ci := by
  unfold tellAccepted; (repeat' split) <;> simp

end tellAccepted

section applyPending

variable (s : State)

@[simp] theorem applyPending_pending : (applyPending s).pending = s.pending := by
  unfold applyPending; (repeat' split) <;> simp
@[simp] theorem applyPending_pt : (applyPending s).pt = s.pt := by
  unfold applyPending; (repeat' split) <;> simp
@[simp] theorem applyPending_ps : (applyPending s).ps = s.ps := by
  unfold applyPending; (repeat' split) <;> simp
@[simp] theorem applyPending_freeCount : (applyPending s).freeCount = s.freeCount := by
  unfold applyPending; (repeat' split) <;> simp
@[simp] theorem applyPending_measured : measured (applyPending s).ci = measured s.ci := by
  unfold applyPending; (repeat' split) <;> simp

end applyPending

section acceptSession

variable (k : Token) (d : Direction) (q : Preset) (s : State)

@[simp] theorem acceptSession_pending : (acceptSession k d q s).pending = s.pending := by simp [acceptSession]
@[simp] theorem acceptSession_pt : (acceptSession k d q s).pt = s.pt := by simp [acceptSession]
@[simp] theorem acceptSession_ps : (acceptSession k d q s).ps = s.ps := by simp [acceptSession]
@[simp] theorem acceptSession_freeCount : (acceptSession k d q s).freeCount = s.freeCount := by simp [acceptSession]
@[simp] theorem acceptSession_measured : measured (acceptSession k d q s).ci = measured s.ci := by simp [acceptSession]

end acceptSession

section tellEnded

variable (c : StopCause) (st : SessionState) (s : State)

@[simp] theorem tellEnded_pending : (tellEnded c st s).pending = s.pending := by
  unfold tellEnded; (repeat' split) <;> simp
@[simp] theorem tellEnded_pt : (tellEnded c st s).pt = s.pt := by
  unfold tellEnded; (repeat' split) <;> simp
@[simp] theorem tellEnded_ps : (tellEnded c st s).ps = s.ps := by
  unfold tellEnded; (repeat' split) <;> simp
@[simp] theorem tellEnded_freeCount : (tellEnded c st s).freeCount = s.freeCount := by
  unfold tellEnded; (repeat' split) <;> simp
@[simp] theorem tellEnded_measured : measured (tellEnded c st s).ci = measured s.ci := by
  unfold tellEnded; (repeat' split) <;> simp

end tellEnded

section endSession

variable (c : StopCause) (s : State)

@[simp] theorem endSession_pending : (endSession c s).pending = s.pending := by
  unfold endSession; dsimp only; (repeat' split) <;> simp
@[simp] theorem endSession_pt : (endSession c s).pt = s.pt := by
  unfold endSession; dsimp only; (repeat' split) <;> simp
@[simp] theorem endSession_ps : (endSession c s).ps = s.ps := by
  unfold endSession; dsimp only; (repeat' split) <;> simp
@[simp] theorem endSession_freeCount : (endSession c s).freeCount = s.freeCount := by
  unfold endSession; dsimp only; (repeat' split) <;> simp
@[simp] theorem endSession_measured : measured (endSession c s).ci = measured s.ci := by
  unfold endSession; dsimp only; (repeat' split) <;> simp

end endSession

section takeStartOrKeep

variable (k : Token) (d : Direction) (q : Preset) (s : State)

@[simp] theorem takeStartOrKeep_pending : (takeStartOrKeep k d q s).pending = s.pending := by
  unfold takeStartOrKeep; (repeat' split) <;> simp
@[simp] theorem takeStartOrKeep_pt : (takeStartOrKeep k d q s).pt = s.pt := by
  unfold takeStartOrKeep; (repeat' split) <;> simp
@[simp] theorem takeStartOrKeep_ps : (takeStartOrKeep k d q s).ps = s.ps := by
  unfold takeStartOrKeep; (repeat' split) <;> simp
@[simp] theorem takeStartOrKeep_freeCount : (takeStartOrKeep k d q s).freeCount = s.freeCount := by
  unfold takeStartOrKeep; (repeat' split) <;> simp
@[simp] theorem takeStartOrKeep_measured : measured (takeStartOrKeep k d q s).ci = measured s.ci := by
  unfold takeStartOrKeep; (repeat' split) <;> simp

end takeStartOrKeep

section takeEnd

variable (n : NodeNum) (k : Token) (s : State)

@[simp] theorem takeEnd_pending : (takeEnd n k s).pending = s.pending := by
  unfold takeEnd; (repeat' split) <;> simp
@[simp] theorem takeEnd_pt : (takeEnd n k s).pt = s.pt := by
  unfold takeEnd; (repeat' split) <;> simp
@[simp] theorem takeEnd_ps : (takeEnd n k s).ps = s.ps := by
  unfold takeEnd; (repeat' split) <;> simp
@[simp] theorem takeEnd_freeCount : (takeEnd n k s).freeCount = s.freeCount := by
  unfold takeEnd; (repeat' split) <;> simp
@[simp] theorem takeEnd_measured : measured (takeEnd n k s).ci = measured s.ci := by
  unfold takeEnd; (repeat' split) <;> simp

end takeEnd

section takeMotion

variable (n : NodeNum) (m : Motion) (s : State)

@[simp] theorem takeMotion_pending : (takeMotion n m s).pending = s.pending := by
  unfold takeMotion; (repeat' split) <;> simp
@[simp] theorem takeMotion_pt : (takeMotion n m s).pt = s.pt := by
  unfold takeMotion; (repeat' split) <;> simp
@[simp] theorem takeMotion_ps : (takeMotion n m s).ps = s.ps := by
  unfold takeMotion; (repeat' split) <;> simp
@[simp] theorem takeMotion_freeCount : (takeMotion n m s).freeCount = s.freeCount := by
  unfold takeMotion; (repeat' split) <;> simp
@[simp] theorem takeMotion_measured : measured (takeMotion n m s).ci = measured s.ci := by
  unfold takeMotion; (repeat' split) <;> simp

end takeMotion

section takeHalt

variable (n : NodeNum) (h : HaltBody) (s : State)

@[simp] theorem takeHalt_pending : (takeHalt n h s).pending = s.pending := by
  unfold takeHalt; (repeat' split) <;> simp
@[simp] theorem takeHalt_pt : (takeHalt n h s).pt = s.pt := by
  unfold takeHalt; (repeat' split) <;> simp
@[simp] theorem takeHalt_ps : (takeHalt n h s).ps = s.ps := by
  unfold takeHalt; (repeat' split) <;> simp
@[simp] theorem takeHalt_freeCount : (takeHalt n h s).freeCount = s.freeCount := by
  unfold takeHalt; (repeat' split) <;> simp
@[simp] theorem takeHalt_measured : measured (takeHalt n h s).ci = measured s.ci := by
  unfold takeHalt; (repeat' split) <;> simp

end takeHalt

section resolveReference

variable (p : Plan) (b : Bool) (s : State)

@[simp] theorem resolveReference_pending : (resolveReference p b s).pending = s.pending := by
  unfold resolveReference; (repeat' split) <;> simp
@[simp] theorem resolveReference_lau : (resolveReference p b s).lau = s.lau := by
  unfold resolveReference; (repeat' split) <;> simp
@[simp] theorem resolveReference_pt : (resolveReference p b s).pt = s.pt := by
  unfold resolveReference; (repeat' split) <;> simp
@[simp] theorem resolveReference_phc : (resolveReference p b s).phc = s.phc := by
  unfold resolveReference; (repeat' split) <;> simp
@[simp] theorem resolveReference_su : (resolveReference p b s).su = s.su := by
  unfold resolveReference; (repeat' split) <;> simp
@[simp] theorem resolveReference_pu : (resolveReference p b s).pu = s.pu := by
  unfold resolveReference; (repeat' split) <;> simp
@[simp] theorem resolveReference_tm : (resolveReference p b s).tm = s.tm := by
  unfold resolveReference; (repeat' split) <;> simp
@[simp] theorem resolveReference_ps : (resolveReference p b s).ps = s.ps := by
  unfold resolveReference; (repeat' split) <;> simp
@[simp] theorem resolveReference_sp : (resolveReference p b s).sp = s.sp := by
  unfold resolveReference; (repeat' split) <;> simp
@[simp] theorem resolveReference_freeCount : (resolveReference p b s).freeCount = s.freeCount := by
  unfold resolveReference; (repeat' split) <;> simp
@[simp] theorem resolveReference_measured : measured (resolveReference p b s).ci = measured s.ci := by
  unfold resolveReference; (repeat' split) <;> simp

end resolveReference

section reportCleared

variable (s : State)

@[simp] theorem reportCleared_pending : (reportCleared s).pending = s.pending := by simp [reportCleared]
@[simp] theorem reportCleared_pt : (reportCleared s).pt = s.pt := by simp [reportCleared]
@[simp] theorem reportCleared_ps : (reportCleared s).ps = s.ps := by simp [reportCleared]
@[simp] theorem reportCleared_freeCount : (reportCleared s).freeCount = s.freeCount := by simp [reportCleared]
@[simp] theorem reportCleared_measured : measured (reportCleared s).ci = measured s.ci := by simp [reportCleared]

end reportCleared

section clearSteps

variable (p : Plan) (e : Byte) (s : State)

@[simp] theorem clearSteps_pending : (clearSteps p e s).pending = s.pending := by simp [clearSteps]
@[simp] theorem clearSteps_lau : (clearSteps p e s).lau = s.lau := by simp [clearSteps]
@[simp] theorem clearSteps_phc : (clearSteps p e s).phc = s.phc := by simp [clearSteps]
@[simp] theorem clearSteps_su : (clearSteps p e s).su = s.su := by simp [clearSteps]
@[simp] theorem clearSteps_pu : (clearSteps p e s).pu = s.pu := by simp [clearSteps]
@[simp] theorem clearSteps_ps : (clearSteps p e s).ps = s.ps := by simp [clearSteps]
@[simp] theorem clearSteps_sp : (clearSteps p e s).sp = s.sp := by simp [clearSteps]
@[simp] theorem clearSteps_freeCount : (clearSteps p e s).freeCount = s.freeCount := by simp [clearSteps]
@[simp] theorem clearSteps_measured : measured (clearSteps p e s).ci = measured s.ci := by simp [clearSteps]

end clearSteps

section takeClear

variable (e : Byte) (s : State)

@[simp] theorem takeClear_pending : (takeClear e s).pending = s.pending := by
  unfold takeClear; dsimp only; (repeat' split) <;> simp
@[simp] theorem takeClear_ps : (takeClear e s).ps = s.ps := by
  unfold takeClear; dsimp only; (repeat' split) <;> simp
@[simp] theorem takeClear_freeCount : (takeClear e s).freeCount = s.freeCount := by
  unfold takeClear; dsimp only; (repeat' split) <;> simp
@[simp] theorem takeClear_measured : measured (takeClear e s).ci = measured s.ci := by
  unfold takeClear; dsimp only; (repeat' split) <;> simp

end takeClear

section takeClearFrame

variable (n : NodeNum) (e : Byte) (s : State)

@[simp] theorem takeClearFrame_pending : (takeClearFrame n e s).pending = s.pending := by
  unfold takeClearFrame; (repeat' split) <;> simp
@[simp] theorem takeClearFrame_ps : (takeClearFrame n e s).ps = s.ps := by
  unfold takeClearFrame; (repeat' split) <;> simp
@[simp] theorem takeClearFrame_freeCount : (takeClearFrame n e s).freeCount = s.freeCount := by
  unfold takeClearFrame; (repeat' split) <;> simp
@[simp] theorem takeClearFrame_measured : measured (takeClearFrame n e s).ci = measured s.ci := by
  unfold takeClearFrame; (repeat' split) <;> simp

end takeClearFrame

section judgeReport

variable (n : NodeNum) (r : Reported) (s : State)

@[simp] theorem judgeReport_pending : (judgeReport n r s).pending = s.pending := by
  unfold judgeReport; dsimp only; (repeat' split) <;> simp
@[simp] theorem judgeReport_ps : (judgeReport n r s).ps = s.ps := by
  unfold judgeReport; dsimp only; (repeat' split) <;> simp
@[simp] theorem judgeReport_freeCount : (judgeReport n r s).freeCount = s.freeCount := by
  unfold judgeReport; dsimp only; (repeat' split) <;> simp
@[simp] theorem judgeReport_measured : measured (judgeReport n r s).ci = measured s.ci := by
  unfold judgeReport; dsimp only; (repeat' split) <;> simp

end judgeReport

section takeReport

variable (n : NodeNum) (e : Byte) (r : ReportBody) (s : State)

@[simp] theorem takeReport_pending : (takeReport n e r s).pending = s.pending := by
  unfold takeReport; dsimp only; (repeat' split) <;> simp
@[simp] theorem takeReport_ps : (takeReport n e r s).ps = s.ps := by
  unfold takeReport; dsimp only; (repeat' split) <;> simp
@[simp] theorem takeReport_freeCount : (takeReport n e r s).freeCount = s.freeCount := by
  unfold takeReport; dsimp only; (repeat' split) <;> simp
@[simp] theorem takeReport_measured : measured (takeReport n e r s).ci = measured s.ci := by
  unfold takeReport; dsimp only; (repeat' split) <;> simp

end takeReport

section handOn

variable (f : Frame) (s : State)

@[simp] theorem handOn_pending : (handOn f s).pending = s.pending := by
  unfold handOn; (repeat' split) <;> simp
@[simp] theorem handOn_ps : (handOn f s).ps = s.ps := by
  unfold handOn; (repeat' split) <;> simp
@[simp] theorem handOn_freeCount : (handOn f s).freeCount = s.freeCount := by
  unfold handOn; (repeat' split) <;> simp
@[simp] theorem handOn_measured : measured (handOn f s).ci = measured s.ci := by
  unfold handOn; (repeat' split) <;> simp

end handOn

section goodFrame

variable (f : Frame) (s : State)

@[simp] theorem goodFrame_pending : (goodFrame f s).pending = s.pending := by
  unfold goodFrame; dsimp only; (repeat' split) <;> simp
@[simp] theorem goodFrame_ps : (goodFrame f s).ps = s.ps := by
  unfold goodFrame; dsimp only; (repeat' split) <;> simp
@[simp] theorem goodFrame_freeCount : (goodFrame f s).freeCount = s.freeCount := by
  unfold goodFrame; dsimp only; (repeat' split) <;> simp
@[simp] theorem goodFrame_measured : measured (goodFrame f s).ci = measured s.ci := by
  unfold goodFrame; dsimp only; (repeat' split) <;> simp

end goodFrame

section judgedRun

variable (v : Option Frame) (s : State)

@[simp] theorem judgedRun_pending : (judgedRun v s).pending = s.pending := by
  unfold judgedRun; (repeat' split) <;> simp
@[simp] theorem judgedRun_ps : (judgedRun v s).ps = s.ps := by
  unfold judgedRun; (repeat' split) <;> simp
@[simp] theorem judgedRun_freeCount : (judgedRun v s).freeCount = s.freeCount := by
  unfold judgedRun; (repeat' split) <;> simp
@[simp] theorem judgedRun_measured : measured (judgedRun v s).ci = measured s.ci := by
  unfold judgedRun; (repeat' split) <;> simp

end judgedRun

section collided

variable (q : Queued) (s : State)

@[simp] theorem collided_pending : (collided q s).pending = s.pending := by
  unfold collided; (repeat' split) <;> simp
@[simp] theorem collided_pt : (collided q s).pt = s.pt := by
  unfold collided; (repeat' split) <;> simp
@[simp] theorem collided_ps : (collided q s).ps = s.ps := by
  unfold collided; (repeat' split) <;> simp
@[simp] theorem collided_freeCount : (collided q s).freeCount = s.freeCount := by
  unfold collided; (repeat' split) <;> simp
@[simp] theorem collided_measured : measured (collided q s).ci = measured s.ci := by
  unfold collided; (repeat' split) <;> simp

end collided

section transmissionDone

variable (q : Queued) (s : State)

@[simp] theorem transmissionDone_pending : (transmissionDone q s).pending = s.pending := by
  unfold transmissionDone; dsimp only; (repeat' split) <;> simp
@[simp] theorem transmissionDone_ps : (transmissionDone q s).ps = s.ps := by
  unfold transmissionDone; dsimp only; (repeat' split) <;> simp
@[simp] theorem transmissionDone_freeCount : (transmissionDone q s).freeCount = s.freeCount := by
  unfold transmissionDone; dsimp only; (repeat' split) <;> simp
@[simp] theorem transmissionDone_measured : measured (transmissionDone q s).ci = measured s.ci := by
  unfold transmissionDone; dsimp only; (repeat' split) <;> simp

end transmissionDone

section endOfRun

variable (v : Option Frame) (g : Frame → Bool) (s : State)

@[simp] theorem endOfRun_pending : (endOfRun v g s).pending = s.pending := by
  unfold endOfRun; (repeat' split) <;> simp
@[simp] theorem endOfRun_ps : (endOfRun v g s).ps = s.ps := by
  unfold endOfRun; (repeat' split) <;> simp
@[simp] theorem endOfRun_freeCount : (endOfRun v g s).freeCount = s.freeCount := by
  unfold endOfRun; (repeat' split) <;> simp
@[simp] theorem endOfRun_measured : measured (endOfRun v g s).ci = measured s.ci := by
  unfold endOfRun; (repeat' split) <;> simp

end endOfRun

section frameEnds

variable (f : Frame) (s : State)

@[simp] theorem frameEnds_pending : (frameEnds f s).pending = s.pending := by
  unfold frameEnds; split <;> simp
@[simp] theorem frameEnds_ps : (frameEnds f s).ps = s.ps := by
  unfold frameEnds; split <;> simp
@[simp] theorem frameEnds_freeCount : (frameEnds f s).freeCount = s.freeCount := by
  unfold frameEnds; split <;> simp
@[simp] theorem frameEnds_measured : measured (frameEnds f s).ci = measured s.ci := by
  unfold frameEnds; split <;> simp

end frameEnds

section decideStartup

variable (s : State)

@[simp] theorem decideStartup_pending : (decideStartup s).pending = s.pending := by
  unfold decideStartup; dsimp only; (repeat' split) <;> simp
@[simp] theorem decideStartup_pt : (decideStartup s).pt = s.pt := by
  unfold decideStartup; dsimp only; (repeat' split) <;> simp
@[simp] theorem decideStartup_ps : (decideStartup s).ps = s.ps := by
  unfold decideStartup; dsimp only; (repeat' split) <;> simp
@[simp] theorem decideStartup_freeCount : (decideStartup s).freeCount = s.freeCount := by
  unfold decideStartup; dsimp only; (repeat' split) <;> simp
@[simp] theorem decideStartup_measured : measured (decideStartup s).ci = measured s.ci := by
  unfold decideStartup; dsimp only; (repeat' split) <;> simp

end decideStartup

section noteValidRead

variable (s : State)

@[simp] theorem noteValidRead_pending : (noteValidRead s).pending = s.pending := by
  unfold noteValidRead; (repeat' split) <;> simp
@[simp] theorem noteValidRead_pt : (noteValidRead s).pt = s.pt := by
  unfold noteValidRead; (repeat' split) <;> simp
@[simp] theorem noteValidRead_ps : (noteValidRead s).ps = s.ps := by
  unfold noteValidRead; (repeat' split) <;> simp
@[simp] theorem noteValidRead_freeCount : (noteValidRead s).freeCount = s.freeCount := by
  unfold noteValidRead; (repeat' split) <;> simp
@[simp] theorem noteValidRead_measured : measured (noteValidRead s).ci = measured s.ci := by
  unfold noteValidRead; (repeat' split) <;> simp

end noteValidRead

section noteVerdict

variable (b : Bool) (s : State)

@[simp] theorem noteVerdict_pending : (noteVerdict b s).pending = s.pending := by
  unfold noteVerdict; (repeat' split) <;> simp
@[simp] theorem noteVerdict_pt : (noteVerdict b s).pt = s.pt := by
  unfold noteVerdict; (repeat' split) <;> simp
@[simp] theorem noteVerdict_ps : (noteVerdict b s).ps = s.ps := by
  unfold noteVerdict; (repeat' split) <;> simp
@[simp] theorem noteVerdict_freeCount : (noteVerdict b s).freeCount = s.freeCount := by
  unfold noteVerdict; (repeat' split) <;> simp
@[simp] theorem noteVerdict_measured : measured (noteVerdict b s).ci = measured s.ci := by
  unfold noteVerdict; (repeat' split) <;> simp

end noteVerdict

end Sys2Proof.Machine
end

