-- ==== Sys2Proof/Laws/Effects.lean ====
section
/-! SUPPORT. What each shared operation can do, said once: later proofs cite these and do not unfold it. -/

namespace Sys2Proof.Machine

open Sys2Proof

/-! ### Peer Table -/

@[simp] theorem PeerTable.entry_setEntry_same (t : PeerTable) (j : NodeNum) (e : PeerEntry) :
    (t.setEntry j e).entry j = e := by
  simp [PeerTable.entry, PeerTable.setEntry]

theorem PeerTable.entry_setEntry_other (t : PeerTable) {i j : NodeNum} (e : PeerEntry) (h : i ≠ j) :
    (t.setEntry j e).entry i = t.entry i := by
  have h' : ¬ j.val = i.val := fun e => h (Fin.ext e.symm)
  simp [PeerTable.entry, PeerTable.setEntry, h']

@[simp] theorem PeerTable.entry_mapEntries (t : PeerTable) (f : NodeNum → PeerEntry → PeerEntry)
    (j : NodeNum) : (t.mapEntries f).entry j = f j (t.entry j) := by
  simp [PeerTable.entry, PeerTable.mapEntries]

@[simp] theorem PeerTable.periodList_setEntry (t : PeerTable) (j : NodeNum) (e : PeerEntry) :
    (t.setEntry j e).periodList = t.periodList := rfl

@[simp] theorem PeerTable.periodList_mapEntries (t : PeerTable)
    (f : NodeNum → PeerEntry → PeerEntry) : (t.mapEntries f).periodList = t.periodList := rfl

@[simp] theorem PeerTable.entry_age (k : Nat) (t : PeerTable) (j : NodeNum) :
    (t.age k).entry j = ageEntry k (t.entry j) :=
  PeerTable.entry_mapEntries t (fun _ e => ageEntry k e) j

@[simp] theorem PeerTable.periodList_age (k : Nat) (t : PeerTable) :
    (t.age k).periodList = freshNodes t := rfl

@[simp] theorem PeerTable.entry_markStale (t : PeerTable) (j : NodeNum) :
    t.markStale.entry j = { t.entry j with stale := true } :=
  PeerTable.entry_mapEntries t (fun _ e => { e with stale := true }) j

@[simp] theorem PeerTable.entry_adopt (p : Plan) (t : PeerTable) (j : NodeNum) :
    (t.adopt p).entry j = adoptEntry p j (t.entry j) := PeerTable.entry_mapEntries t _ j

/-- The numbers whose fresh marker is set, none twice. -/
theorem freshNodes_nodup (t : PeerTable) : (freshNodes t).Nodup :=
  (List.nodup_finRange 64).filter _

theorem mem_freshNodes (t : PeerTable) (j : NodeNum) :
    j ∈ freshNodes t ↔ (t.entry j).fresh = true := by
  simp [freshNodes, allNodes]

/-! ### Lanes -/

/-- What joining a lane does: the frame joins at the tail, or the queued frame of its kind stays, or it takes
that frame's place with its attempt count (R9, R10). -/
theorem joinLane_cases (lane : List Queued) (f : Frame) :
    (lane.find? (fun q => frameKind q.frame == frameKind f) = none
        ∧ joinLane lane f = lane ++ [{ frame := f, attempts := 0 }])
      ∨ (∃ old, lane.find? (fun q => frameKind q.frame == frameKind f) = some old
          ∧ keepsQueued old.frame f = true ∧ joinLane lane f = lane)
      ∨ (∃ old, lane.find? (fun q => frameKind q.frame == frameKind f) = some old
          ∧ keepsQueued old.frame f = false
          ∧ joinLane lane f =
              lane.map (fun q => if frameKind q.frame == frameKind f then { q with frame := f } else q)) := by
  unfold joinLane
  cases h : lane.find? (fun q => frameKind q.frame == frameKind f) with
  | none => exact .inl ⟨rfl, rfl⟩
  | some old =>
    cases hk : keepsQueued old.frame f with
    | true => exact .inr (.inl ⟨old, rfl, hk, by simp [hk]⟩)
    | false => exact .inr (.inr ⟨old, rfl, hk, by simp [hk]⟩)

/-- Composing touches nothing without a plan, and otherwise joins the frame to its lane. -/
theorem compose_cases (f : Frame) (s : State) :
    (s.ps.plan = none ∧ compose f s = s)
      ∨ (∃ p, s.ps.plan = some p ∧ compose f s = s.withLau (lauJoin p.node s.lau f)) := by
  unfold compose
  cases h : s.ps.plan with
  | none => exact .inl ⟨rfl, rfl⟩
  | some p => exact .inr ⟨p, rfl, rfl⟩

/-- A joining frame changes the lanes and the deferral, and nothing else of the unit. -/
theorem deferAfterJoin_cases (own : NodeNum) (a b : LineAccess) :
    ∃ d, deferAfterJoin own a b = { b with deferral := d }
      ∧ (b.lineBusy = true ∨ b.transmitter.isSome = true → d = b.deferral) := by
  unfold deferAfterJoin startDeferral
  split
  · exact ⟨b.deferral, rfl, fun _ => rfl⟩
  · rename_i h
    have h' : ¬ (b.lineBusy = true ∨ b.transmitter.isSome = true) := by simpa using h
    split
    · exact ⟨_, rfl, fun c => absurd c h'⟩
    · split
      · exact ⟨_, rfl, fun c => absurd c h'⟩
      · exact ⟨b.deferral, rfl, fun _ => rfl⟩

/-! ### Drive, halt and trip -/

/-- A running exclusive or counts the ones modulo 2. -/
theorem foldl_xor_parity (f : Nat → Bool) (l : List Nat) (b : Bool) :
    (l.foldl (fun p i => p ^^ f i) b).toNat = (b.toNat + (l.filter f).length) % 2 := by
  induction l generalizing b with
  | nil => cases b <;> rfl
  | cons i l ih =>
    rw [List.foldl_cons, ih, List.filter_cons]
    cases b <;> cases f i <;> simp <;> omega

/-- The parity bit makes the ones of the word and itself even (R42, R51). -/
theorem evenParity_even (w : Word) :
    (((List.range 16).filter w.getLsbD).length + (evenParity w).toNat) % 2 = 0 := by
  have h := foldl_xor_parity w.getLsbD (List.range 16) false
  simp only [evenParity, h, Bool.toNat_false]
  omega

/-- A demand is in transfer at once, or waits behind the transfer in flight (R51). -/
theorem sendWord_cases (w : Word) (ci : ColumnInterface) :
    (ci.transfer = none ∧ sendWord w ci = { ci with transfer := some (demandWord w) })
      ∨ (ci.transfer.isSome = true ∧ sendWord w ci = { ci with nextWord := some (demandWord w) }) := by
  unfold sendWord
  cases h : ci.transfer with
  | none => exact .inl ⟨rfl, rfl⟩
  | some d => exact .inr ⟨rfl, rfl⟩

@[simp] theorem safeDrive_driveEnable (s : State) : (safeDrive s).ci.driveEnable = false := by
  unfold safeDrive sendWord setDrive; split <;> rfl

@[simp] theorem safeDrive_brakeRelease (s : State) : (safeDrive s).ci.brakeRelease = false := by
  unfold safeDrive sendWord setDrive; split <;> rfl

@[simp] theorem safeDrive_contactHeight (s : State) :
    (safeDrive s).ci.contactHeight = s.ci.contactHeight := by
  unfold safeDrive sendWord setDrive; split <;> rfl

@[simp] theorem safeDrive_demand (s : State) : (safeDrive s).pu.demand = 0 := rfl

@[simp] theorem setFlag_record (c : Cause) (d : Option TravelSide) (s : State) :
    (setFlag c d s).tm.record = s.tm.record := rfl

@[simp] theorem setFlag_flags (c : Cause) (d : Option TravelSide) (s : State) :
    (setFlag c d s).tm.flags = withFlag s.tm.flags c := rfl

theorem foldl_setFlag_record (cs : List (Cause × Option TravelSide)) (s : State) :
    (cs.foldl (fun t c => setFlag c.1 c.2 t) s).tm.record = s.tm.record := by
  induction cs generalizing s with
  | nil => rfl
  | cons c cs ih => exact ih _

@[simp] theorem enterPhase_phase (p : Phase) (s : State) : (enterPhase p s).phc.phase = p := by
  simp [enterPhase]

@[simp] theorem enterPhase_record (p : Phase) (s : State) :
    (enterPhase p s).tm.record = s.tm.record := by
  simp [enterPhase]

@[simp] theorem enterPhase_demand (p : Phase) (s : State) :
    (enterPhase p s).pu.demand = s.pu.demand := by
  simp only [enterPhase, latchEvent, State.withSp_pu, latchWhen_pu, State.withTm_pu, State.withPu_pu]
  unfold paceAt
  dsimp only
  split <;> split <;> rfl

/-- The halt order leaves the node in HALTED with its drive safe, whatever it was doing (R77). -/
@[simp] theorem haltOrder_phase (s : State) : (haltOrder s).phc.phase = .halted := by
  unfold haltOrder; dsimp only
  split
  · assumption
  · simp

@[simp] theorem haltOrder_record (s : State) : (haltOrder s).tm.record = s.tm.record := by
  unfold haltOrder; dsimp only
  split
  · simp
  · simp [foldl_setFlag_record]

@[simp] theorem haltOrder_drive (s : State) :
    (haltOrder s).ci.driveEnable = false ∧ (haltOrder s).ci.brakeRelease = false
      ∧ (haltOrder s).pu.demand = 0 := by
  unfold haltOrder; dsimp only
  split <;> simp

/-- What a halt leaves (R137, R139, R149): the given record, HALTED, a safe drive and no session. -/
theorem applyHalt_spec (r : HaltRecord) (s : State) :
    (applyHalt r s).tm.record = some r ∧ (applyHalt r s).phc.phase = .halted
      ∧ (applyHalt r s).ci.driveEnable = false ∧ (applyHalt r s).ci.brakeRelease = false
      ∧ (applyHalt r s).pu.demand = 0 ∧ (applyHalt r s).su.session = none := by
  simp [applyHalt, endSessionInHalt]

/-- What a local trip can do (R138 to R140): nothing without a plan; a flag at a halted node; a flag and a
halt at a node that was not halted. -/
theorem trip_cases (c : Cause) (d : Option TravelSide) (n : Option NodeNum) (s : State) :
    (s.ps.plan = none ∧ trip c d n s = s)
      ∨ (s.ps.plan.isSome = true ∧ isHalted s = true ∧ trip c d n s = setFlag c d s)
      ∨ (s.ps.plan.isSome = true ∧ isHalted s = false
          ∧ trip c d n s = localHalt c n (setFlag c d s)) := by
  unfold trip
  cases h : s.ps.plan with
  | none => exact .inl ⟨rfl, rfl⟩
  | some p =>
    cases hh : isHalted s with
    | true => exact .inr (.inl ⟨rfl, rfl, by simp⟩)
    | false => exact .inr (.inr ⟨rfl, rfl, by simp⟩)

/-- After a local trip under a plan the node is halted (R139, R140). -/
theorem trip_isHalted (c : Cause) (d : Option TravelSide) (n : Option NodeNum) (s : State)
    (h : s.ps.plan.isSome = true) : isHalted (trip c d n s) = true := by
  rcases trip_cases c d n s with ⟨h0, -⟩ | ⟨-, hh, e⟩ | ⟨-, -, e⟩
  · simp [h0] at h
  · rw [e]; exact hh
  · rw [e]; simp [isHalted, localHalt, (applyHalt_spec _ _).1]

/-! ### Change of phase -/

/-- A phase held already is not entered (R62). -/
@[simp] theorem changePhase_same (s : State) : changePhase s.phc.phase s = s := by
  simp [changePhase]

/-- What the Column Interface's hand-off can do at a change of phase (R49, R52, R53). -/
theorem columnAt_still (old new : Phase) (s : State) (h1 : isMoving new = false)
    (h2 : isMoving old = false) : columnAt old new s = s := by
  have : new ≠ .retract := by rintro rfl; simp [isMoving] at h1
  simp [columnAt, h1, h2, this]

/-! ### Sessions -/

/-- A session end finds no session, or ends it and tells the Phase Controller (R93). -/
theorem endSession_none (c : StopCause) {s : State} (h : s.su.session = none) :
    endSession c s = s := by
  simp [endSession, h]

/-- What a START or KEEP can do (R87 to R90). -/
theorem takeStartOrKeep_cases (k : Token) (d : Direction) (q : Preset) (s : State) :
    (s.su.session = none ∧ takeStartOrKeep k d q s = acceptSession k d q s)
      ∨ (∃ ss, s.su.session = some ss ∧ ss.token = k ∧ ss.dir = d
          ∧ takeStartOrKeep k d q s = s.withSu { s.su with session := some { ss with keep := 0 } })
      ∨ (∃ ss, s.su.session = some ss ∧ ss.token ≠ k ∧ ss.token.originator = k.originator
          ∧ takeStartOrKeep k d q s = acceptSession k d q (endSession .released s))
      ∨ (∃ ss, s.su.session = some ss
          ∧ ((ss.token = k ∧ ss.dir ≠ d) ∨ ss.token.originator ≠ k.originator)
          ∧ takeStartOrKeep k d q s = endSession .conflict s) := by
  unfold takeStartOrKeep
  cases h : s.su.session with
  | none => exact .inl ⟨rfl, rfl⟩
  | some ss =>
    by_cases h1 : ss.token = k
    · by_cases h2 : ss.dir = d
      · exact .inr (.inl ⟨ss, rfl, h1, h2, by simp [h1, h2]⟩)
      · exact .inr (.inr (.inr ⟨ss, rfl, .inl ⟨h1, h2⟩, by simp [h1, h2]⟩))
    · by_cases h2 : ss.token.originator = k.originator
      · exact .inr (.inr (.inl ⟨ss, rfl, h1, h2, by simp [h1, h2]⟩))
      · exact .inr (.inr (.inr ⟨ss, rfl, .inr h2, by simp [h1, h2]⟩))

/-- What an END can do (R91). -/
theorem takeEnd_cases (n : NodeNum) (k : Token) (s : State) :
    (s.su.session.map (·.token) ≠ some k ∧ takeEnd n k s = s)
      ∨ (s.su.session.map (·.token) = some k
          ∧ takeEnd n k s = endSession (if n = k.originator then .released else .stopped) s) := by
  unfold takeEnd
  cases h : s.su.session with
  | none => exact .inl ⟨by simp, rfl⟩
  | some ss =>
    by_cases hk : ss.token = k
    · exact .inr ⟨by simp [hk], by simp [hk]⟩
    · exact .inl ⟨by simp [hk], by simp [hk]⟩

/-- A MOTION from outside the membership is not taken (R86). -/
theorem takeMotion_stranger {p : Plan} {s : State} (hp : s.ps.plan = some p) {n : NodeNum}
    (h : isMember p n = false) (m : Motion) : takeMotion n m s = s := by
  simp [takeMotion, hp, h]

/-- A HALT from outside the membership is not taken (R149). -/
theorem takeHalt_stranger {p : Plan} {s : State} (hp : s.ps.plan = some p) {n : NodeNum}
    (h : isMember p n = false) (b : HaltBody) : takeHalt n b s = s := by
  simp [takeHalt, hp, h]

/-- A HALT at a halted node is ignored (R149). -/
theorem takeHalt_halted {s : State} (h : isHalted s = true) (n : NodeNum) (b : HaltBody) :
    takeHalt n b s = s := by
  unfold takeHalt; split
  · rfl
  · simp [h]

/-- What taking a clear can do (R152): nothing without a plan; otherwise its steps, and then a new halt of
the lowest flag that stays, a report that the halt is cleared, or nothing more. -/
theorem takeClear_cases (e : Byte) (s : State) :
    (s.ps.plan = none ∧ takeClear e s = s)
      ∨ (∃ p, s.ps.plan = some p
          ∧ ((∃ c, lowestFlag (clearSteps p e s).tm.flags = some c
                ∧ takeClear e s = localHalt c none (clearSteps p e s))
            ∨ (lowestFlag (clearSteps p e s).tm.flags = none ∧ isHalted s = true
                ∧ takeClear e s = reportCleared (clearSteps p e s))
            ∨ (lowestFlag (clearSteps p e s).tm.flags = none ∧ isHalted s = false
                ∧ takeClear e s = clearSteps p e s))) := by
  unfold takeClear
  cases h : s.ps.plan with
  | none => exact .inl ⟨rfl, rfl⟩
  | some p =>
    refine .inr ⟨p, rfl, ?_⟩
    cases hl : lowestFlag (clearSteps p e s).tm.flags with
    | some c => exact .inl ⟨c, rfl, by simp [hl]⟩
    | none =>
      cases hh : isHalted s with
      | true => exact .inr (.inl ⟨rfl, rfl, by simp [hl]⟩)
      | false => exact .inr (.inr ⟨rfl, rfl, by simp [hl]⟩)

/-! ### Plan Store and Service Port -/

/-- An adoption refuses the image's first failing check, or adopts it (R165 to R168). -/
theorem adoption_cases (s : State) :
    (∃ sec check, failingCheck s.ps.image = some (sec, check) ∧ adoption s = refusePlan sec check s)
      ∨ (failingCheck s.ps.image = none ∧ adoption s = adoptPlan s) := by
  unfold adoption
  cases h : failingCheck s.ps.image with
  | none => exact .inr ⟨rfl, rfl⟩
  | some x => exact .inl ⟨x.1, x.2, rfl, rfl⟩

/-- When a plan command is permitted (R169). -/
theorem planPermitted_iff (s : State) :
    planPermitted s = true ↔
      s.phc.phase = .unplanned ∨ (s.phc.phase = .idle ∧ s.su.session = none) := by
  simp [planPermitted]

/-- What a service write into the image does (R169). -/
theorem writePlan_cases (a : Nat) (v : Byte) (s : State) :
    (planPermitted s = true ∧ writePlan a v s =
        s.withPs { s.ps with image := s.ps.image.write a v, adopted := false, fingerprint := none })
      ∨ (planPermitted s = false ∧ writePlan a v s = latchEvent .writeRefused s) := by
  unfold writePlan
  cases h : planPermitted s with
  | true => exact .inl ⟨rfl, by simp⟩
  | false => exact .inr ⟨rfl, by simp⟩

/-- A busy Plan Store answers every command but SUMMARY with the BUSY byte (R177). -/
theorem actCommand_busy {c : ServiceCommand} {s : State} (h : planBusy s = true)
    (hc : c ≠ .summary) : actCommand c s = withReply [busyByte] s := by
  simp [actCommand, h, hc]

/-- A command whose bytes the parser has none of yet is received whole and acts (R175). -/
theorem wholeCommand_idle (c : ServiceCommand) {s : State} (hp : s.sp.parser = [])
    (hb : s.sp.breakHeld = false) :
    wholeCommand c s = actCommand c (echoByte ((commandBytes c).getLastD 0) [] s) := by
  have h : ([] : List Byte) ≠ commandBytes c := by cases c <;> simp [commandBytes]
  have h' : ([] : List Byte).isPrefixOf (commandBytes c) = true := by
    cases commandBytes c <;> rfl
  simp [wholeCommand, hb, hp, h, h']

/-- The second moment of a PEEK_ON touches the reply alone, and only while its read is to come (R175). -/
theorem takeSecondRead_cases (s : State) :
    (s.sp.secondRead = false ∧ takeSecondRead s = s.sp)
      ∨ (s.sp.secondRead = true ∧ takeSecondRead s = { s.sp with
          reply := s.sp.reply.take 1 ++ [readAddress s s.sp.pointer.toNat], secondRead := false }) := by
  unfold takeSecondRead
  cases h : s.sp.secondRead with
  | true => exact .inr ⟨rfl, by simp⟩
  | false => exact .inl ⟨rfl, by simp⟩

/-! ### Idle line -/

/-- The idle event of a frame row is judged once an idle event has been seen (R1, R4). -/
theorem frameEnds_synced (f : Frame) {s : State} (h : s.lau.synced = true) :
    frameEnds f s = endOfRun (if f.wf then some f else none) (fun g => g == f) s := by
  simp [frameEnds, h]

/-- Before that it makes the line idle and no more (R1). -/
theorem frameEnds_unsynced (f : Frame) {s : State} (h : s.lau.synced = false) :
    frameEnds f s = lineIdle s.lau.last s := by
  simp [frameEnds, h]

/-- An idle slot never takes back a slot counted, and needs no fewer (R13). -/
theorem countSlot_keeps (d : Deferral) :
    d.slots ≤ (countSlot d).slots ∧ (countSlot d).needed = d.needed := by
  unfold countSlot
  split <;> simp

/-! ### Start condition -/

/-- The start condition starts a PENDING session of an adopted node whose set agrees, or changes nothing (R95,
R169). -/
theorem startCondition_cases (p : Plan) (s : State) :
    startCondition p s = s
      ∨ ∃ ss, s.su.session = some ss ∧ ss.state = .pending ∧ s.ps.adopted = true
          ∧ awaitsStart s.phc.phase ss.dir = true
          ∧ membershipAgreement p s.pt ss.token (startPhases ss.dir) = true
          ∧ startCondition p s = tellStarted p ss.dir
              (s.withSu { s.su with session := some { ss with state := .running } }) := by
  unfold startCondition
  cases h : s.su.session with
  | none => exact .inl rfl
  | some ss =>
    dsimp only
    split
    · rename_i hc
      exact .inr ⟨ss, rfl, hc.1, hc.2.2.1, hc.2.1, hc.2.2.2, rfl⟩
    · exact .inl rfl

/-! ### Lock monitor and step selector -/

/-- The run count that the lock monitor leaves is below 16, and 0 after a change of state (R128). -/
theorem lockStep_run (w e : Nat) (st : SyncState) (run : Nat) (h : run ≤ 15) :
    (lockStep w e st run).2 ≤ 15
      ∧ ((lockStep w e st run).1 ≠ st → (lockStep w e st run).2 = 0) := by
  unfold lockStep
  cases st <;> dsimp only <;> repeat' split
  all_goals (constructor <;> simp <;> omega)

/-- The window of the step selector stays inside its ranges (R121). -/
theorem selectStep_window (p : Plan) (sp load : Nat) (lk : Bool) (pu : PaceUnit)
    (h : pu.windowCount ≤ 31) :
    (selectStep p sp load lk pu).windowCount ≤ 31
      ∧ (selectStep p sp load lk pu).windowSum ≤ 2097151 := by
  unfold selectStep
  split
  · simp
  · dsimp only
    split
    · simp
    · refine ⟨?_, Nat.min_le_left _ _⟩
      simp only; omega

end Sys2Proof.Machine
end

