-- ==== Sys2Proof/Laws/Memory.lean ====
section
/-! SUPPORT. The plan image: a read after a write, and the canonical form that every operation keeps. -/

namespace Sys2Proof.Machine

open Sys2Proof

/-- A byte below every listed offset reads blank. -/
theorem Memory.read_below {low a : Nat} {m : Memory} (h : m.wfFrom low = true) (ha : a < low) :
    m.read a = Memory.blankByte := by
  induction m generalizing low with
  | nil => rfl
  | cons c m ih =>
    obtain ⟨b, v⟩ := c
    simp only [Memory.wfFrom, Bool.and_eq_true, decide_eq_true_eq] at h
    have hb : b ≠ a := by omega
    simp only [Memory.read, if_neg hb]
    exact ih h.2 (by omega)

/-- A form canonical from an offset on is canonical from every lower one. -/
theorem Memory.wfFrom_mono {low low' : Nat} {m : Memory} (h : m.wfFrom low = true)
    (hl : low' ≤ low) : m.wfFrom low' = true := by
  cases m with
  | nil => rfl
  | cons c m =>
    obtain ⟨b, v⟩ := c
    simp only [Memory.wfFrom, Bool.and_eq_true, decide_eq_true_eq] at h ⊢
    exact ⟨⟨⟨by omega, h.1.1.2⟩, h.1.2⟩, h.2⟩

/-- A read after a write: the written byte at its offset, every other byte as before. -/
theorem Memory.read_write {low : Nat} {m : Memory} (h : m.wfFrom low = true) (a b : Nat) (v : Byte) :
    (m.write a v).read b = if b = a then v else m.read b := by
  induction m generalizing low with
  | nil =>
    by_cases hv : v = Memory.blankByte
    · simp [Memory.write, Memory.read, hv]
    · simp only [Memory.write, if_neg hv, Memory.read]
      by_cases hb : b = a
      · simp [hb]
      · rw [if_neg hb, if_neg (fun e => hb e.symm)]
  | cons c m ih =>
    obtain ⟨k, w⟩ := c
    simp only [Memory.wfFrom, Bool.and_eq_true, decide_eq_true_eq] at h
    have hin := ih h.2
    simp only [Memory.write]
    by_cases h1 : a < k
    · have hz : Memory.read ((k, w) :: m) a = Memory.blankByte :=
        Memory.read_below (low := k)
          (by simp only [Memory.wfFrom, Bool.and_eq_true, decide_eq_true_eq]
              exact ⟨⟨⟨Nat.le_refl k, h.1.1.2⟩, h.1.2⟩, h.2⟩) h1
      rw [if_pos h1]
      split
      · rename_i hv
        by_cases hb : b = a
        · subst hb; rw [hz]; simp [hv]
        · simp [hb]
      · by_cases hb : b = a
        · subst hb; simp [Memory.read]
        · have : a ≠ b := fun e => hb e.symm
          simp [Memory.read, hb, this]
    · rw [if_neg h1]
      by_cases h2 : a = k
      · subst h2
        rw [if_pos rfl]
        split
        · rename_i hv
          by_cases hb : b = a
          · subst hb
            rw [Memory.read_below h.2 (by omega)]; simp [hv]
          · have : a ≠ b := fun e => hb e.symm
            simp [Memory.read, hb, this]
        · by_cases hb : b = a
          · subst hb; simp [Memory.read]
          · have : a ≠ b := fun e => hb e.symm
            simp [Memory.read, hb, this]
      · rw [if_neg h2]
        simp only [Memory.read]
        by_cases hk : k = b
        · subst hk
          have : ¬ k = a := fun e => h2 e.symm
          simp [this]
        · simp only [if_neg hk]; exact hin

/-- A write keeps the canonical form. -/
theorem Memory.write_wfFrom {low : Nat} {m : Memory} (h : m.wfFrom low = true) {a : Nat} (v : Byte)
    (hl : low ≤ a) (ha : a < 256) : (m.write a v).wfFrom low = true := by
  induction m generalizing low with
  | nil =>
    by_cases hv : v = Memory.blankByte <;> simp [Memory.write, Memory.wfFrom, hv, hl, ha]
  | cons c m ih =>
    obtain ⟨k, w⟩ := c
    simp only [Memory.wfFrom, Bool.and_eq_true, decide_eq_true_eq] at h
    simp only [Memory.write]
    split
    · rename_i h1
      split
      · simp only [Memory.wfFrom, Bool.and_eq_true, decide_eq_true_eq]; exact h
      · rename_i hv
        simp only [Memory.wfFrom, Bool.and_eq_true, decide_eq_true_eq]
        exact ⟨⟨⟨hl, ha⟩, by simpa using hv⟩, ⟨⟨by omega, h.1.1.2⟩, h.1.2⟩, h.2⟩
    · split
      · rename_i h1 h2
        subst h2
        split
        · exact Memory.wfFrom_mono h.2 (by omega)
        · rename_i hv
          simp only [Memory.wfFrom, Bool.and_eq_true, decide_eq_true_eq]
          exact ⟨⟨⟨hl, ha⟩, by simpa using hv⟩, h.2⟩
      · rename_i h1 h2
        simp only [Memory.wfFrom, Bool.and_eq_true, decide_eq_true_eq]
        exact ⟨h.1, ih h.2 (by omega)⟩

/-- A write at an offset of the image keeps the canonical form. -/
theorem Memory.write_wf {m : Memory} (h : m.wf = true) {a : Nat} (v : Byte) (ha : a < 256) :
    (m.write a v).wf = true := Memory.write_wfFrom h v (Nat.zero_le _) ha

/-- A 16-bit write keeps the canonical form. -/
theorem Memory.write16_wf {m : Memory} (h : m.wf = true) {a : Nat} (w : Word) (ha : a + 1 < 256) :
    (m.write16 a w).wf = true :=
  Memory.write_wf (Memory.write_wf h _ (by omega)) _ ha

/-- The image of a list of bytes is canonical. -/
theorem Memory.ofBytesFrom_wfFrom (a : Nat) (vs : List Byte) (h : a + vs.length ≤ 256) :
    (Memory.ofBytesFrom a vs).wfFrom a = true := by
  induction vs generalizing a with
  | nil => rfl
  | cons v vs ih =>
    simp only [List.length_cons] at h
    have := ih (a + 1) (by omega)
    simp only [Memory.ofBytesFrom]
    split
    · exact Memory.wfFrom_mono this (by omega)
    · rename_i hv
      simp only [Memory.wfFrom, Bool.and_eq_true, decide_eq_true_eq]
      exact ⟨⟨⟨Nat.le_refl a, by omega⟩, by simpa using hv⟩, this⟩

/-- The image of a list of bytes reads that list. -/
theorem Memory.read_ofBytesFrom (a : Nat) (vs : List Byte) (h : a + vs.length ≤ 256) (b : Nat) :
    (Memory.ofBytesFrom a vs).read b =
      if a ≤ b then vs.getD (b - a) Memory.blankByte else Memory.blankByte := by
  induction vs generalizing a with
  | nil => simp [Memory.ofBytesFrom, Memory.read]
  | cons v vs ih =>
    simp only [List.length_cons] at h
    have hr := ih (a + 1) (by omega)
    have hw := Memory.ofBytesFrom_wfFrom (a + 1) vs (by omega)
    simp only [Memory.ofBytesFrom]
    by_cases hb : b = a
    · subst hb
      split
      · rename_i hv; rw [Memory.read_below hw (by omega)]; simp [hv]
      · simp [Memory.read]
    · have hb' : a ≠ b := fun e => hb e.symm
      have key : (Memory.ofBytesFrom (a + 1) vs).read b =
          if a ≤ b then (v :: vs).getD (b - a) Memory.blankByte else Memory.blankByte := by
        rw [hr]
        by_cases hl : a + 1 ≤ b
        · have e : b - a = (b - (a + 1)) + 1 := by omega
          simp only [if_pos hl, if_pos (show a ≤ b by omega), e, List.getD_cons_succ]
        · simp only [if_neg hl, if_neg (show ¬ a ≤ b by omega)]
      split
      · exact key
      · simp only [Memory.read, if_neg hb']; exact key

/-- The image of a LOAD is canonical. -/
theorem Memory.ofLoad_wf (bytes : List Byte) : (Memory.ofLoad bytes).wf = true :=
  Memory.ofBytesFrom_wfFrom 0 _ (by rw [List.length_take]; omega)

/-- The image after reset is canonical. -/
theorem Memory.reset_wf : State.reset.ps.image.wf = true := rfl

/-! ### The image that adoption leaves -/

@[simp] theorem Memory.bytes_length (m : Memory) (a n : Nat) : (m.bytes a n).length = n := by
  simp [Memory.bytes]

@[simp] theorem natBytes_length (n : Nat) : (natBytes n).length = 2 := rfl

@[simp] theorem neighbourBytes_length (n : Neighbour) : (neighbourBytes n).length = 3 := rfl

/-- Bytes of equal length for each element. -/
theorem flatMap_length_const {α : Type} (f : α → List Byte) (k : Nat) (h : ∀ a, (f a).length = k)
    (l : List α) : (l.flatMap f).length = l.length * k := by
  induction l with
  | nil => simp
  | cons a l ih => simp [h, ih]; ring

/-- No more neighbours are kept than are written. -/
theorem keepNeighbours_length (own : NodeNum) (ms : BitVec 64) (seen : List NodeNum)
    (l : List (Byte × Nat)) : (keepNeighbours own ms seen l).length ≤ l.length := by
  induction l generalizing seen with
  | nil => simp [keepNeighbours]
  | cons c l ih =>
    simp only [keepNeighbours]
    split
    · exact (ih seen).trans (by simp)
    · split
      · exact (ih seen).trans (by simp)
      · simpa using ih _

/-- A plan has no more neighbours than the image's count, which is at most 6. -/
theorem planOf_neighbours_length (m : Memory) :
    (planOf m).neighbours.length ≤ neighbourCount m ∧ neighbourCount m ≤ 6 := by
  refine ⟨?_, Nat.min_le_left _ _⟩
  refine (keepNeighbours_length _ _ _ _).trans ?_
  simp [writtenNeighbours]

/-- The covered bytes of each section, as many as its span. -/
theorem clampedSection_length (m : Memory) (sec : PlanSection) :
    (clampedSection m (planOf m) sec).length = (sectionSpan sec).2 := by
  cases sec with
  | identity => simp [clampedSection, sectionSpan]
  | set => simp [clampedSection, sectionSpan]
  | pace =>
    simp [clampedSection, sectionSpan, flatMap_length_const natBytes 2 natBytes_length]
  | column => simp [clampedSection, sectionSpan]
  | neighbours =>
    have h := planOf_neighbours_length m
    simp [clampedSection, sectionSpan, flatMap_length_const neighbourBytes 3 neighbourBytes_length]
    omega

/-- Adoption leaves 256 bytes. -/
theorem adoptedBytes_length (m : Memory) : (adoptedBytes m).length = 256 := by
  simp [adoptedBytes, sealedSection, clampedSection_length, sectionSpan]

/-- The image that adoption leaves is canonical. -/
theorem adoptedImage_wf (m : Memory) : (adoptedImage m).wf = true :=
  Memory.ofBytesFrom_wfFrom 0 _ (by simp [adoptedBytes_length])

/-- The image that adoption leaves reads the bytes of adoption. -/
theorem adoptedImage_read (m : Memory) (a : Nat) :
    (adoptedImage m).read a = (adoptedBytes m).getD a Memory.blankByte :=
  (Memory.read_ofBytesFrom 0 (adoptedBytes m) (by simp [adoptedBytes_length]) a).trans
    (by rw [if_pos (Nat.zero_le a), Nat.sub_zero])

end Sys2Proof.Machine
end

