-- ==== Sys2Proof/Laws/PaceFrame.lean ====
section
/-! SUPPORT. What the stages of a computation leave as it was. -/

namespace Sys2Proof.Machine

open Sys2Proof

section judgePace

variable (p : Plan) (v : LineView) (s : State)

@[simp] theorem judgePace_pending : (judgePace p v s).pending = s.pending := by
  unfold judgePace; dsimp only; (repeat' split) <;> simp
@[simp] theorem judgePace_lau : (judgePace p v s).lau = s.lau := by
  unfold judgePace; dsimp only; (repeat' split) <;> simp
@[simp] theorem judgePace_pt : (judgePace p v s).pt = s.pt := by
  unfold judgePace; dsimp only; (repeat' split) <;> simp
@[simp] theorem judgePace_ci : (judgePace p v s).ci = s.ci := by
  unfold judgePace; dsimp only; (repeat' split) <;> simp
@[simp] theorem judgePace_phc : (judgePace p v s).phc = s.phc := by
  unfold judgePace; dsimp only; (repeat' split) <;> simp
@[simp] theorem judgePace_su : (judgePace p v s).su = s.su := by
  unfold judgePace; dsimp only; (repeat' split) <;> simp
@[simp] theorem judgePace_tm : (judgePace p v s).tm = s.tm := by
  unfold judgePace; dsimp only; (repeat' split) <;> simp
@[simp] theorem judgePace_ps : (judgePace p v s).ps = s.ps := by
  unfold judgePace; dsimp only; (repeat' split) <;> simp
@[simp] theorem judgePace_freeCount : (judgePace p v s).freeCount = s.freeCount := by
  unfold judgePace; dsimp only; (repeat' split) <;> simp

end judgePace

section arrive

variable (s : State)

@[simp] theorem arrive_pending : (arrive s).pending = s.pending := by simp [arrive]
@[simp] theorem arrive_pt : (arrive s).pt = s.pt := by simp [arrive]
@[simp] theorem arrive_ps : (arrive s).ps = s.ps := by simp [arrive]
@[simp] theorem arrive_freeCount : (arrive s).freeCount = s.freeCount := by simp [arrive]
@[simp] theorem arrive_measured : measured (arrive s).ci = measured s.ci := by simp [arrive]

end arrive

section giveDemand

variable (d : Int × Bool) (s : State)

@[simp] theorem giveDemand_pending : (giveDemand d s).pending = s.pending := by simp [giveDemand]
@[simp] theorem giveDemand_lau : (giveDemand d s).lau = s.lau := by simp [giveDemand]
@[simp] theorem giveDemand_pt : (giveDemand d s).pt = s.pt := by simp [giveDemand]
@[simp] theorem giveDemand_phc : (giveDemand d s).phc = s.phc := by simp [giveDemand]
@[simp] theorem giveDemand_su : (giveDemand d s).su = s.su := by simp [giveDemand]
@[simp] theorem giveDemand_tm : (giveDemand d s).tm = s.tm := by simp [giveDemand]
@[simp] theorem giveDemand_ps : (giveDemand d s).ps = s.ps := by simp [giveDemand]
@[simp] theorem giveDemand_sp : (giveDemand d s).sp = s.sp := by simp [giveDemand]
@[simp] theorem giveDemand_freeCount : (giveDemand d s).freeCount = s.freeCount := by simp [giveDemand]
@[simp] theorem giveDemand_measured : measured (giveDemand d s).ci = measured s.ci := by simp [giveDemand]

end giveDemand

section composeReport

variable (p : Plan) (l : Word) (s : State)

@[simp] theorem composeReport_pending : (composeReport p l s).pending = s.pending := by simp [composeReport]
@[simp] theorem composeReport_ci : (composeReport p l s).ci = s.ci := by simp [composeReport]
@[simp] theorem composeReport_phc : (composeReport p l s).phc = s.phc := by simp [composeReport]
@[simp] theorem composeReport_su : (composeReport p l s).su = s.su := by simp [composeReport]
@[simp] theorem composeReport_pu : (composeReport p l s).pu = s.pu := by simp [composeReport]
@[simp] theorem composeReport_tm : (composeReport p l s).tm = s.tm := by simp [composeReport]
@[simp] theorem composeReport_ps : (composeReport p l s).ps = s.ps := by simp [composeReport]
@[simp] theorem composeReport_sp : (composeReport p l s).sp = s.sp := by simp [composeReport]
@[simp] theorem composeReport_freeCount : (composeReport p l s).freeCount = s.freeCount := by simp [composeReport]

end composeReport

section publish

variable (p : Plan) (v : LineView) (s : State)

@[simp] theorem publish_pending : (publish p v s).pending = s.pending := by simp [publish]
@[simp] theorem publish_ci : (publish p v s).ci = s.ci := by simp [publish]
@[simp] theorem publish_phc : (publish p v s).phc = s.phc := by simp [publish]
@[simp] theorem publish_su : (publish p v s).su = s.su := by simp [publish]
@[simp] theorem publish_tm : (publish p v s).tm = s.tm := by simp [publish]
@[simp] theorem publish_ps : (publish p v s).ps = s.ps := by simp [publish]
@[simp] theorem publish_sp : (publish p v s).sp = s.sp := by simp [publish]
@[simp] theorem publish_freeCount : (publish p v s).freeCount = s.freeCount := by simp [publish]

end publish

section checkSample

variable (p : Plan) (c : ControlSample) (s : State)

@[simp] theorem checkSample_pending : (checkSample p c s).pending = s.pending := by
  unfold checkSample; dsimp only; (repeat' split) <;> simp
@[simp] theorem checkSample_pt : (checkSample p c s).pt = s.pt := by
  unfold checkSample; dsimp only; (repeat' split) <;> simp
@[simp] theorem checkSample_ps : (checkSample p c s).ps = s.ps := by
  unfold checkSample; dsimp only; (repeat' split) <;> simp
@[simp] theorem checkSample_freeCount : (checkSample p c s).freeCount = s.freeCount := by
  unfold checkSample; dsimp only; (repeat' split) <;> simp
@[simp] theorem checkSample_measured : measured (checkSample p c s).ci = measured s.ci := by
  unfold checkSample; dsimp only; (repeat' split) <;> simp

end checkSample

section tellStarted

variable (p : Plan) (d : Direction) (s : State)

@[simp] theorem tellStarted_pending : (tellStarted p d s).pending = s.pending := by
  unfold tellStarted; (repeat' split) <;> simp
@[simp] theorem tellStarted_pt : (tellStarted p d s).pt = s.pt := by
  unfold tellStarted; (repeat' split) <;> simp
@[simp] theorem tellStarted_ps : (tellStarted p d s).ps = s.ps := by
  unfold tellStarted; (repeat' split) <;> simp
@[simp] theorem tellStarted_freeCount : (tellStarted p d s).freeCount = s.freeCount := by
  unfold tellStarted; (repeat' split) <;> simp
@[simp] theorem tellStarted_measured : measured (tellStarted p d s).ci = measured s.ci := by
  unfold tellStarted; (repeat' split) <;> simp

end tellStarted

section startCondition

variable (p : Plan) (s : State)

@[simp] theorem startCondition_pending : (startCondition p s).pending = s.pending := by
  unfold startCondition; (repeat' split) <;> simp
@[simp] theorem startCondition_pt : (startCondition p s).pt = s.pt := by
  unfold startCondition; (repeat' split) <;> simp
@[simp] theorem startCondition_ps : (startCondition p s).ps = s.ps := by
  unfold startCondition; (repeat' split) <;> simp
@[simp] theorem startCondition_freeCount : (startCondition p s).freeCount = s.freeCount := by
  unfold startCondition; (repeat' split) <;> simp
@[simp] theorem startCondition_measured : measured (startCondition p s).ci = measured s.ci := by
  unfold startCondition; (repeat' split) <;> simp

end startCondition

section retractCheck

variable (p : Plan) (s : State)

@[simp] theorem retractCheck_pending : (retractCheck p s).pending = s.pending := by
  unfold retractCheck; (repeat' split) <;> simp
@[simp] theorem retractCheck_pt : (retractCheck p s).pt = s.pt := by
  unfold retractCheck; (repeat' split) <;> simp
@[simp] theorem retractCheck_ps : (retractCheck p s).ps = s.ps := by
  unfold retractCheck; (repeat' split) <;> simp
@[simp] theorem retractCheck_freeCount : (retractCheck p s).freeCount = s.freeCount := by
  unfold retractCheck; (repeat' split) <;> simp
@[simp] theorem retractCheck_measured : measured (retractCheck p s).ci = measured s.ci := by
  unfold retractCheck; (repeat' split) <;> simp

end retractCheck

section paceStages

variable (p : Plan) (s : State)

@[simp] theorem paceStages_pending : (paceStages p s).pending = s.pending := by
  unfold paceStages; dsimp only; (repeat' split) <;> simp
@[simp] theorem paceStages_ps : (paceStages p s).ps = s.ps := by
  unfold paceStages; dsimp only; (repeat' split) <;> simp
@[simp] theorem paceStages_freeCount : (paceStages p s).freeCount = s.freeCount := by
  unfold paceStages; dsimp only; (repeat' split) <;> simp
@[simp] theorem paceStages_measured : measured (paceStages p s).ci = measured s.ci := by
  unfold paceStages; dsimp only; (repeat' split) <;> simp

end paceStages

section computation

variable (p : Plan) (s : State)

@[simp] theorem computation_pending : (computation p s).pending = s.pending := by
  unfold computation; dsimp only; (repeat' split) <;> simp
@[simp] theorem computation_ps : (computation p s).ps = s.ps := by
  unfold computation; dsimp only; (repeat' split) <;> simp
@[simp] theorem computation_freeCount : (computation p s).freeCount = s.freeCount := by
  unfold computation; dsimp only; (repeat' split) <;> simp
@[simp] theorem computation_measured : measured (computation p s).ci = measured s.ci := by
  unfold computation; dsimp only; (repeat' split) <;> simp

end computation

end Sys2Proof.Machine
end

