-- ==== Sys2Proof/Tests/Slice0.lean ====
section
/-! SUPPORT. Small tests with expected values from the spec's worked sequences and rules, the refusals of the
well-formedness checks, and a witness for the hypotheses of each statement. -/

namespace Sys2Proof.Tests

open Sys2Proof Sys2Proof.Machine Sys2Proof.Safety

set_option Elab.async false

/-! ### Small states -/

/-- Node 3 of the set 3 to 6, with the default pace table (R119) and the values of the worked computation of
06_the_pace_computation.md: W = 20 and C_cr = 50. -/
def plan3 : Plan :=
  { node := 3, setName := [], membership := 0x78, periodCode := 1, kSil := 3, kKeep := 4,
    contactTimeout := 60, stallLimit := 20, drift := 50,
    presets := #v[2000, 4000, 0, 0],
    speeds := #v[200, 400, 800, 1200, 1600, 2000, 2500, 3000],
    thresholds := #v[65535, 40, 30, 22, 16, 12, 8, 5],
    sMax := 6, window := 20, creep := 50, approach := 600, retract := 600, slowZone := 150,
    unloadZone := 150, datum := 5000, lo := 10, hi := 18000, parked := 100, padRating := 15000,
    contactLevel := 500, neighbours := [{ node := 4, tolerance := 100 }] }

/-- The token (4, 8). -/
def tok : Token := { originator := 4, sequence := 8 }

/-- What a peer reported: phase, lift and step, in LOCK under the token. -/
def heard (ph : Phase) (lift : Word) (k : Step) : Reported :=
  { phase := ph, sync := .lock, step := k, halt := none, token := some tok, lift := lift, height := 0,
    load := 0, epoch := some 4, fingerprint := 0x5CA0, refValid := true, clamped := false }

/-- A LIVE entry. -/
def live (r : Reported) : PeerEntry :=
  { state := .live, report := some r, silence := 0, stale := false, fresh := true }

/-- The table with the three peers as they reported. -/
def table (r4 r5 r6 : Reported) : PeerTable :=
  ((((PeerTable.reset.setEntry 3 (PeerEntry.blank .self)).setEntry 4 (live r4)).setEntry 5 (live r5)).setEntry
    6 (live r6))

/-- The peers of the worked computation: lifts 305, 318 and 309, steps 6, 5 and 6. -/
def peers (ph : Phase) : PeerTable := table (heard ph 305 5) (heard ph 318 4) (heard ph 309 5)

/-- Levels at rest: nothing made or pressed, the drive ready. -/
def quiet : FilteredLevels :=
  { estop := some false, limitUp := some false, limitDown := some false, nut := some false,
    driveReady := some true, driveFault := some false, up := some false, down := some false,
    stop := some false, resetReq := some false, preset0 := some false, preset1 := some false,
    preset2 := some false }

/-- Node 3 under its plan in a phase, with a session or none. -/
def node3 (ph : Phase) (ss : Option Session) : State :=
  { State.reset with
    lau := { LineAccess.reset with synced := true, lineBusy := false, last := 7 }
    pt := peers ph
    ci := { ColumnInterface.reset with
      height := some 13312, contactHeight := some 13000, levels := quiet, inputsSettled := true,
      startSamples := 3, loadTimer := some 100000, transfer := none,
      driveEnable := isMoving ph, brakeRelease := isMoving ph }
    phc := { PhaseController.reset with
      phase := ph, startup := { validRead := true, verdict := some false, done := true } }
    su := { SessionUnit.reset with session := ss, sequence := 7 }
    pu := { PaceUnit.reset with timer := some 0, step := 5 }
    tm := { TripMonitor.reset with epoch := some 4 }
    ps := { PlanStore.reset with plan := some plan3, adopted := true, fingerprint := some 0x5CA0 } }

/-- A session of the token. -/
def session (st : SessionState) (d : Direction) (preset : Preset) : Session :=
  { state := st, token := tok, dir := d, preset := preset, keep := 0 }

/-- Node 3 halted by a HALT of node 5. -/
def halted3 : State :=
  let s := node3 .halted none
  { s with
    tm := { s.tm with
      record := some { cause := .stall, originator := 5, remote := true, originatorLift := 0, ownLift := 0,
                       peer := none, token := none } } }

/-- The state that a command leads to. -/
def after (c : Instr) (s : State) : State :=
  match exec c s with
  | .next t => t
  | .fault _ => s
  | .refused _ => s

/-- The fourteen-byte report that node 4 sends. -/
def bodyOf (r : Reported) : ReportBody :=
  { phase := r.phase, sync := r.sync, step := r.step, halt := r.halt, token := r.token, lift := r.lift,
    height := r.height, load := r.load, fingerprint := r.fingerprint, refValid := r.refValid,
    clamped := r.clamped, epochKnown := r.epoch.isSome }

/-! ### Well-formedness refuses -/

theorem test_wf_report : Instr.wf (.report 4 4 (bodyOf (heard .unplanned 0 0))) = false := by decide
theorem test_wf_collision : Instr.wf (.collision 20 none) = false := by decide
theorem test_wf_loadSample : Instr.wf (.loadSample 15 0) = false := by decide
theorem test_wf_loadComplete : Instr.wf (.loadComplete [0xA7]) = false := by decide
theorem test_wf_storeComplete : Instr.wf (.storeComplete (some [])) = false := by decide
theorem test_wf_unknownCode : Instr.wf (.unknownCommandCode 0x11) = false := by decide
theorem test_wf_lineBreak : Instr.wf (.lineBreak 9) = false := by decide

/-! ### Rules with worked values -/

/-- The common check value of the generator and start of R3: "123456789" gives 0x29B1. -/
theorem test_crc : crc16 [0x31, 0x32, 0x33, 0x34, 0x35, 0x36, 0x37, 0x38, 0x39] = 0x29B1 := by
  decide +kernel
/-- 09_the_set_plan_and_start_up.md, "Worked checksum". -/
theorem test_checksum : checksum [0x12, 0x34, 0xF0] = 0xA0 ∧ checksum [0x34, 0x12, 0xF0] = 0xE4 := by
  decide
/-- 01_line_access_on_the_lift_bus.md, "Worked sequence: the rotation after a good frame". -/
theorem test_rank : rank 3 7 = 59 ∧ rank 7 7 = 63 ∧ rank 12 7 = 4 ∧ rank 40 7 = 32 := by decide
/-- R123's examples and the worked selections of 07_speed_steps_and_lock.md. -/
theorem test_proposal : proposal plan3 13 = 4 ∧ proposal plan3 12 = 5 ∧ proposal plan3 5 = 7
    ∧ proposal plan3 41 = 0 := by decide
/-- "A heavy column falls three steps": a mean of 13 and a load of 13,800 take step 6 to 3. -/
theorem test_windowFalls : windowEnd plan3 13 13800 true 5 =
    (2, { ceiled := 4, deduction := 2, final := 2, outcome := .fell }) := by decide
/-- "A rise of one step, and a rise held". -/
theorem test_windowRises : (windowEnd plan3 9 6000 true 2).1 = 3
    ∧ (windowEnd plan3 9 6000 false 2).2.outcome = .held := by decide
/-- 12_a_worked_lift.md: a spread of 27 at step 6 falls to step 5 at once. -/
theorem test_fallback : (selectStep plan3 27 0 true { PaceUnit.reset with step := 5, windowCount := 13 }).step
    = 4 := by decide
/-- A position word of 61,200 or 1,200 with a datum offset of 5,000 or -3,000 is clamped to the range of a
height (R43). -/
theorem test_heightClamps : heightOf 61200 5000 = 65535 ∧ heightOf 1200 (-3000) = 0 := by decide

/-- The parity bit makes the 17 bits of a demand word even (R51): three ones of 50 with a fourth, two of 80. -/
theorem test_demandParity : (demandWord 50).parity = true ∧ (demandWord 80).parity = false := by decide

/-! ### One step of each command -/

theorem test_reset : (after .reset (node3 .idle none)).phc.phase = .unplanned
    ∧ (after .reset (node3 .idle none)).sp.latch = 1 := by decide +kernel

/-- A run with a malformed byte is discarded: `last` is 63 (R4). -/
theorem test_idleEvent : (after (.idleEvent [some 0x9A, none]) (node3 .idle none)).lau.last = 63 := by
  decide +kernel

/-- A REPORT of this node with one attempt counted. -/
def ownReport : Queued :=
  { frame := { sender := 3, epochByte := 4, body := .report (bodyOf (heard .idle 312 5)) }, attempts := 1 }

/-- Node 3 with its REPORT waiting and the deferral running. -/
def waiting3 : State :=
  let s := node3 .idle none
  { s with lau := { s.lau with normal := [ownReport], deferral := some { slots := 3, needed := 63 } } }

/-- Node 3 with its REPORT on the line. -/
def sending3 : State := after .deferralRunsOut waiting3

/-- A step on an empty queue is one idle slot: the running deferral counts it (R13; log entry 3). -/
theorem test_idleSlot : ((idleSlot waiting3).lau.deferral.map (·.slots)) = some 4
    ∧ step waiting3 = .next (idleSlot waiting3) := ⟨by decide +kernel, rfl⟩

/-- A HALT that joined the urgent lane needs 2 slots where 5 are counted: they stay counted (R13). -/
theorem test_countPassed : countSlot { slots := 5, needed := 2 } = { slots := 5, needed := 2 } := by decide

/-- A good CLEAR that ends the first run after reset is not taken: the line is idle and `last` stays 63 (R1). -/
theorem test_firstRun : (after (.clear 5 5) State.reset).lau.last = 63
    ∧ (after (.clear 5 5) State.reset).lau.synced = true := by decide +kernel

theorem test_lineBecomesBusy : (after .lineBecomesBusy waiting3).lau.deferral = none
    ∧ (after .lineBecomesBusy waiting3).lau.normal = [ownReport] := by decide +kernel
theorem test_deferralRunsOut : sending3.lau.transmitter = some ownReport ∧ sending3.lau.normal = [] := by
  decide +kernel
/-- "A collision after a missed frame": the sender byte reads back as another node's; the REPORT returns to
the head of its lane with one attempt more. -/
theorem test_collision : (after (.collision 2 (some 20)) sending3).lau.normal
    = [{ ownReport with attempts := 2 }] := by decide +kernel
theorem test_transmissionComplete : (after .transmissionComplete sending3).lau.last = 3
    ∧ (after .transmissionComplete sending3).lau.transmitter = none := by decide +kernel

/-- "A table filling and ageing": a REPORT from outside the membership makes a STRANGER, and STRANGER
latches. -/
theorem test_report :
    let t := after (.report 9 4 (bodyOf (heard .idle 0 0))) (node3 .idle none)
    (t.pt.entry 9).state = .stranger ∧ t.sp.latch = 0x81 := by decide +kernel
/-- 12_a_worked_lift.md, "Approach and contact". -/
theorem test_startUp : (after (.startUp 4 4 8 1) (node3 .idle none)).phc.phase = .approach
    ∧ (after (.startUp 4 4 8 1) (node3 .idle none)).phc.contactTimer = some 60000000 := by decide +kernel
theorem test_startDown : (after (.startDown 4 4 8 0) (node3 .hold none)).phc.phase = .hold
    ∧ (after (.startDown 4 4 8 0) (node3 .hold none)).su.session = some (session .pending .down 0) := by
  decide +kernel
theorem test_keepUp : ((after (.keepUp 4 4 8 1)
    (node3 .lift (some { session .running .up 1 with keep := 3 }))).su.session.map (·.keep)) = some 0 := by
  decide +kernel
/-- A KEEP of the other direction under the record's token is a conflict (R90). -/
theorem test_keepDown :
    let t := after (.keepDown 4 4 8 1) (node3 .lift (some (session .running .up 1)))
    t.phc.phase = .hold ∧ t.phc.lastStop = .conflict := by decide +kernel
theorem test_endSession :
    let t := after (.endSession 4 4 tok) (node3 .lift (some (session .running .up 1)))
    t.phc.phase = .hold ∧ t.phc.lastStop = .released ∧ t.ci.transfer = some { value := 0, parity := false } := by decide +kernel
theorem test_halt :
    let t := after (.halt 5 4 { cause := .peerSilent, lift := 2000, peer := some 6 }) (node3 .hold none)
    t.phc.phase = .halted ∧ t.tm.record.map (·.remote) = some true ∧ t.lau.urgent = [] := by decide +kernel
theorem test_clear : (after (.clear 5 5) halted3).phc.phase = .idle
    ∧ (after (.clear 5 5) halted3).tm.epoch = some 5 := by decide +kernel
/-- "Adopting a reference": of the live loaded neighbours the lowest lift is taken (R154; 12_a_worked_lift.md,
node 24: 2,000 under h = 13,611 gives 11,611). -/
theorem test_clearAdoptsReference :
    let s := { halted3 with
      pt := table (heard .hold 2000 0) (heard .hold 1990 0) (heard .hold 1990 0)
      ci := { halted3.ci with height := some 13611, contactHeight := none, contactRun := 3 } }
    (after (.clear 5 5) s).ci.contactHeight = some 11611 ∧ (after (.clear 5 5) s).phc.phase = .hold := by
  decide +kernel

theorem test_controlPeriodExpiry :
    let t := after .controlPeriodExpiry (node3 .idle none)
    (t.pt.entry 4).silence = 1 ∧ t.pt.periodList = [4, 5, 6] ∧ t.pu.timer = some 20000
      ∧ t.ci.read = .inFlight := by decide +kernel

/-- Node 3 lifting, with a position read in flight. -/
def lifting3 (preset : Preset) : State :=
  let s := node3 .lift (some (session .running .up preset))
  { s with ci := { s.ci with read := .inFlight } }

/-- "Four columns lifting together": l = 312, e = 7, set step 5, demand +1,040 su. -/
theorem test_positionRead :
    let t := after (.positionReadComplete false 8312 (evenParity 8312) true) (lifting3 0)
    t.pu.demand = 1040 ∧ t.pu.sample.map (fun c => (c.lead, c.spread)) = some (7, 13) := by decide +kernel
/-- "Approaching a preset", its last row, with the target of preset 1: at 2,000 the column arrives. -/
theorem test_positionReadArrives :
    let t := after (.positionReadComplete false 10000 (evenParity 10000) true) (lifting3 1)
    t.phc.phase = .hold ∧ t.phc.lastStop = .arrived ∧ t.pu.demand = 0 := by decide +kernel

/-- "A pad taking the car": the third sample in a row at the contact level makes contact at the height of the
last read. -/
theorem test_loadSample :
    let s := node3 .approach (some (session .pending .up 1))
    let t := after (.loadSample 16 900) { s with ci := { s.ci with height := some 11842, contactRun := 2 } }
    t.phc.phase = .contact ∧ t.ci.contactHeight = some 11842 ∧ t.ci.contactRun = 3
      ∧ t.ci.driveEnable = false := by decide +kernel
theorem test_loadSilenceExpiry : ((after .loadSilenceExpiry (node3 .idle none)).tm.record.map (·.cause))
    = some .loadSilent := by decide +kernel
theorem test_demandTransferComplete : (after .demandTransferComplete State.reset).ci.transfer = none := by
  decide +kernel

/-- The levels of a node at rest. -/
def atRest : LineLevels :=
  { estop := false, limitUp := false, limitDown := false, nut := false, driveReady := true,
    driveFault := false, up := false, down := false, stop := false, resetReq := false, preset0 := false,
    preset1 := false, preset2 := false }

/-- "A cold start": with the last line settled the LOAD is in flight. -/
theorem test_inputsSettled : (after (.inputsSettled atRest) State.reset).ps.op = .load
    ∧ (after (.inputsSettled atRest) State.reset).ci.levels = quiet := by decide +kernel
theorem test_switchChange :
    ((after (.switchChange .nut true) (node3 .lift (some (session .running .up 0)))).tm.record.map (·.cause))
      = some .nutEngaged
    ∧ (after (.switchChange .nut true) (node3 .idle none)).tm.record = none := by decide +kernel
theorem test_driveStatusChange :
    ((after (.driveStatusChange .fault true) (node3 .idle none)).tm.record.map (·.cause))
      = some .driveFault := by decide +kernel
/-- R58: the selector's lines 1, 0, 0 form preset 1; the sequence goes from 7 to 8. -/
theorem test_heldDirectionChange : (after (.heldDirectionChange true false 1) (node3 .idle none)).su.press
    = .waiting { originator := 3, sequence := 8 } .up 1 := by decide +kernel
theorem test_stopPress :
    let t := after (.stopPress true) (node3 .lift (some (session .running .up 0)))
    t.lau.normal.map (·.frame.body) = [.motion (.finish tok)] ∧ t.phc.phase = .lift := by decide +kernel
theorem test_resetReqChange : (after (.resetReqChange true) halted3).ci.holdTimer = some 1000000 := by
  decide +kernel
/-- The CLEAR carries the epoch plus 1 (R151). -/
theorem test_resetRequestHoldExpiry :
    ((after .resetRequestHoldExpiry (after (.resetReqChange true) halted3)).lau.urgent.map (·.frame))
      = [{ sender := 3, epochByte := 5, body := .clear }] := by decide +kernel
theorem test_contactTimeout :
    let s := node3 .approach (some (session .pending .up 1))
    ((after .contactTimeout { s with phc := { s.phc with contactTimer := some 0 } }).tm.record.map
      (·.cause)) = some .contactTimeout := by decide +kernel

/-- The node with its LOAD in flight. -/
def loading : State := after (.inputsSettled atRest) State.reset

/-- A memory that stops driving its line gives bytes of 0xFF, which the tag check finds (R163, R165). -/
theorem test_loadComplete : (after (.loadComplete []) loading).ps.outcome = .badPlan .identity .tag := by
  decide +kernel
theorem test_loadNoMemory : (after .loadNoMemory loading).ps.outcome = .noMemory
    ∧ (after .loadNoMemory loading).sp.latch = 0x41 := by decide +kernel

/-- Node 3 with its STORE in flight. -/
def storing3 : State := after .store (node3 .idle none)

theorem test_store : storing3.ps.op = .store ∧ storing3.sp.reply = [] := by decide +kernel
theorem test_storeComplete : (after (.storeComplete none) storing3).ps.storeStatus = some 1 := by
  decide +kernel
theorem test_storeReplySent : (after .storeReplySent (after (.storeComplete none) storing3)).sp.reply = [1] := by
  decide +kernel
/-- The phase byte of the status block reads IDLE through the service line (R187). -/
theorem test_peek : (after (.peek 0x521) (node3 .idle none)).sp.reply = [1] := by decide +kernel
theorem test_poke :
    let t := after (.poke 0x1F 0x0A) (node3 .idle none)
    t.ps.image.read 0x1F = 0x0A ∧ t.ps.adopted = false ∧ t.ps.fingerprint = none := by decide +kernel
theorem test_pokeRefused : (after (.poke 0x1F 0x0A) (node3 .lift (some (session .running .up 0)))).sp.latch
    = 0x101 := by decide +kernel
theorem test_peekOn : (after .peekOn (node3 .idle none)).sp.pointer = 2 := by decide +kernel
/-- A CLEAR between the two reads of a PEEK_ON shows in the second byte alone, here the halt-stale bit of the entry of
node 5; the first byte is the last one of node 4's (R175, R187). -/
theorem test_peekOnStraddles :
    let s := { node3 .idle none with sp := { ServicePort.reset with pointer := 0x14E } }
    let t := after .peekOn s
    t.sp.reply = [0x05, 0x2B] ∧ (idleSlot (after (.clear 5 5) t)).sp.reply = [0x05, 0x3B] := by decide +kernel
theorem test_pokeOn : (after (.pokeOn 7) (node3 .idle none)).ps.image.read 1 = 7 := by decide +kernel
/-- R179's eight bytes: IDLE, no session, no halt, epoch 4, step 6 in ACQUIRE, set complete with the epoch
known, last stop NONE, no stranger. -/
theorem test_summary : (after .summary (node3 .idle none)).sp.reply = [2, 0, 0, 4, 6, 3, 0, 0] := by
  decide +kernel
/-- A plan image of 0x00 fails the tag check: status 1 (R165, R170). -/
theorem test_adopt : (after .adopt (node3 .idle none)).sp.reply = [1] := by decide +kernel
theorem test_adoptRefused : (after .adopt (node3 .hold none)).sp.reply = [2] := by decide +kernel
theorem test_restart : (after .restart (node3 .idle none)).phc.phase = .unplanned
    ∧ (after .restart storing3).sp.reply = [0xB5] := by decide +kernel
theorem test_unknownCommandCode : (after (.unknownCommandCode 0x55) (node3 .idle none)).sp.echo = some 0x55 := by
  decide +kernel
theorem test_framingError :
    let s := after (.serviceByteReceived 0x11) (node3 .idle none)
    s.sp.parser = [0x11] ∧ (after .framingError s).sp.parser = [] := by decide +kernel
theorem test_lineBreak : (after (.lineBreak 2) (after .summary (node3 .idle none))).sp.reply = [2, 0] := by
  decide +kernel
theorem test_breakEcho :
    (after .breakEcho (after (.lineBreak 0) (node3 .idle none))).sp.breakHeld = false := by decide +kernel
theorem test_serviceByteReceived : (after (.serviceByteReceived 0x12) (node3 .idle none)).sp.parser = [0x12] := by
  decide +kernel

/-! ### States for the witnesses -/

/-- A state with one command waiting. -/
def queued (c : Instr) : State := { waiting3 with pending := [c] }

/-- A CLEAR of node 5 with epoch 5. -/
def clearOf5 : Frame := { sender := 5, epochByte := 5, body := .clear }

/-- Its six bytes as a run: sync, kind, sender, epoch and the check. -/
def clearRun : List BusByte := (frameBytes clearOf5).map some

/-- A frame of this node, composed under epoch 4. -/
def ownFrame (b : Body) : Queued := { frame := { sender := 3, epochByte := 4, body := b }, attempts := 0 }

/-- A HALT of this node. -/
def ownHalt : Queued := ownFrame (.halt { cause := .stall, lift := 0, peer := none })

/-- Node 3 with a frame on the line. -/
def sends (b : Body) : State := { sending3 with lau := { sending3.lau with transmitter := some (ownFrame b) } }

/-- A node with its press of sequence 7 WAITING. -/
def waits (s : State) : State :=
  { s with su := { s.su with press := .waiting { originator := 3, sequence := 7 } .up 1 } }

/-- The same with the START of that press on the line. -/
def starts (s : State) : State :=
  { waits s with lau := { s.lau with transmitter := some (ownFrame (.motion (.start .up 7 1))) } }

/-- A node without a plan after an idle event. -/
def unplanned3 : State := { State.reset with lau := { LineAccess.reset with synced := true } }

/-- Node 3 with its HALT on the line. -/
def sendingHalt : State := sends ownHalt.frame.body

/-- Its HALT on the line, and a newer one in the urgent lane. -/
def haltBehindHalt : State := { sendingHalt with lau := { sendingHalt.lau with urgent := [ownHalt] } }

/-- Its REPORT on the line, and a newer frame in the normal lane. -/
def joined (q : Queued) : State := { sending3 with lau := { sending3.lau with normal := [q] } }

/-- The REPORT on the line at its sixteenth attempt. -/
def sendingLast (s : State) : State :=
  { s with lau := { s.lau with transmitter := some { ownReport with attempts := 15 } } }

/-- Node 3 with its epoch unknown. -/
def epochless3 : State :=
  let s := node3 .idle none
  { s with tm := { s.tm with epoch := none } }

/-- Node 3 lifting, with node 4 at its last expiry but one of K_sil. -/
def ageing3 : State :=
  let s := node3 .lift (some (session .running .up 1))
  { s with pt := s.pt.setEntry 4 { live (heard .lift 0 0) with silence := 2 } }

/-- Node 3 with the press of the session held, one expiry below K_keep. -/
def holding3 : State :=
  let s := node3 .lift (some { session .running .up 1 with keep := 2 })
  { s with su := { s.su with press := .held tok .up 1 } }

/-- Node 3 in IDLE with DRIVE_READY low. -/
def notReady3 : State :=
  let s := node3 .idle none
  { s with ci := { s.ci with levels := { quiet with driveReady := some false } } }

/-- Node 3 in IDLE with DRIVE_FAULT asserted. -/
def driveFaulted3 : State :=
  let s := node3 .idle none
  { s with ci := { s.ci with levels := { quiet with driveFault := some true } } }

/-- The record of a halt learnt from node 5. -/
def remoteRecord : HaltRecord :=
  { cause := .stall, originator := 5, remote := true, originatorLift := 0, ownLift := 0, peer := none,
    token := none }

/-- Node 3 halted on a cause of its own. -/
def haltedHere3 : State :=
  { halted3 with tm := { halted3.tm with record := some { remoteRecord with remote := false } } }

/-- Node 3 halted with the emergency-stop loop open. -/
def estopped3 : State :=
  { halted3 with
    ci := { halted3.ci with levels := { quiet with estop := some true } }
    tm := { halted3.tm with flags := causeBit .estop } }

/-- Node 3 halted on NO_REFERENCE under the car, with no live peer. -/
def unreferenced3 : State :=
  { halted3 with
    pt := PeerTable.reset
    ci := { halted3.ci with contactHeight := none, contactRun := 3 }
    tm := { halted3.tm with flags := causeBit .noReference } }

/-- A node without a plan whose position read is not to be handed on. -/
def unhanded : State := { State.reset with ci := { ColumnInterface.reset with read := .inFlightNotHanded } }

/-- Node 3 lifting at its target of 2,000. -/
def arrived3 : State :=
  { lifting3 1 with ci := { (lifting3 1).ci with height := some 15000 } }

/-- Node 3 in CONTACT at its read, with every member agreeing. -/
def agreed3 : State :=
  let s := node3 .contact (some (session .pending .up 1))
  { s with ci := { s.ci with read := .inFlight } }

/-- The same with its plan marked unadopted. -/
def unadopted3 : State := { agreed3 with ps := { agreed3.ps with adopted := false, fingerprint := none } }

/-- Node 3 in APPROACH after two samples at the contact level. -/
def touching3 : State :=
  let s := node3 .approach (some (session .pending .up 1))
  { s with ci := { s.ci with contactRun := 2 } }

/-- A control sample in LOWER at a lift. -/
def lowered (l : Word) : ControlSample :=
  { phase := .lower, height := some 13312, lift := l, lead := 0, spread := 0, demand := -50 }

/-- Node 3 in LOWER after two samples below half the contact level. -/
def unloading3 (l : Word) : State :=
  let s := node3 .lower (some (session .running .down 0))
  { s with
    ci := { s.ci with unloadRun := 2, lossRun := 2 }
    pu := { s.pu with sample := some (lowered l) } }

/-- Node 3 in STARTING before its third load sample, with the start read noted. -/
def starting3 : State :=
  let s := node3 .starting none
  { s with
    ci := { s.ci with startSamples := 2, contactRun := 2 }
    phc := { s.phc with startup := { validRead := true, verdict := none, done := false } } }

/-- Node 3 with UP held and its press WAITING. -/
def pressed3 : State :=
  let s := node3 .idle none
  { s with
    ci := { s.ci with held := some .up, levels := { quiet with up := some true } }
    su := { s.su with press := .waiting tok .up 1 } }

/-- An image that passes: tag, version, node 3, the membership, and the checksums of IDENTITY and SET. -/
def image3 : Machine.Memory :=
  [(0x00, 0xA7), (0x01, 0x3C), (0x02, 0x02), (0x03, 0x03), (0x0C, 0x35), (0x17, 0x78), (0x27, 0x3C)]

/-- A state with that image. -/
def holdingImage (s : State) : State := { s with ps := { s.ps with image := image3 } }

/-- Node 3 in RETRACT at its read, above the parked height. -/
def retracting3 : State :=
  let s := node3 .retract (some (session .running .down 0))
  { s with ci := { s.ci with read := .inFlight, contactHeight := none } }

/-- Node 3 halted at its read. -/
def judgedHalted3 : State := { halted3 with ci := { halted3.ci with read := .inFlight } }

/-- Node 3 lifting after two samples below half the contact level. -/
def losing3 : State :=
  let s := node3 .lift (some (session .running .up 1))
  { s with ci := { s.ci with unloadRun := 2, lossRun := 2 } }

/-- Node 3 lifting after one sample above the pad rating. -/
def overloading3 : State :=
  let s := node3 .lift (some (session .running .up 1))
  { s with ci := { s.ci with contactRun := 3, overloadRun := 1 } }

/-- Node 3 in HOLD with NUT made. -/
def nutMade3 : State :=
  let s := node3 .hold none
  { s with ci := { s.ci with levels := { quiet with nut := some true } } }

/-- Node 3 halted with a momentary flag and one whose condition has gone. -/
def gone3 : State :=
  { halted3 with tm := { halted3.tm with flags := causeBit .stall ||| causeBit .estop } }

/-- Every command answers the next state that `after` names. -/
theorem exec_after (c : Instr) (s : State) : exec c s = .next (after c s) := by cases c <;> rfl

/-- A step of a queued command. -/
theorem step_after (c : Instr) (s : State) (h : s.pending = [c]) :
    step s = .next (after c (s.withPending [])) := by
  rw [← exec_after]; unfold step; rw [h]

/-- Node 3 after the adoption of that image, with a command waiting. -/
def adopted3 : State :=
  { after .adopt (holdingImage (node3 .idle none)) with pending := [.lineBecomesBusy] }

theorem planLaw_adopted3 : PlanLaw adopted3 := by
  refine ⟨fun p h => ?_, by decide +kernel⟩
  obtain rfl : planOf image3 = p :=
    Option.some.inj ((by decide +kernel : adopted3.ps.plan = some (planOf image3)).symm.trans h)
  unfold PlanInRange
  decide +kernel

theorem adoptedImageLaw_adopted3 : AdoptedImageLaw adopted3 := fun _ => by decide +kernel

/-- The entries of the queued state: unheard, the own one, and three reports in LIVE. -/
theorem entries_queued (j : NodeNum) : ((queued .lineBecomesBusy).pt.entry j) ∈
    [PeerEntry.blank .unlisted, PeerEntry.blank .self, live (heard .idle 305 5), live (heard .idle 318 4),
     live (heard .idle 309 5)] := by
  revert j
  decide +kernel

theorem peerLaw_queued : PeerLaw (queued .lineBecomesBusy) :=
  show 2 ≤ plan3.kSil ∧ isMember plan3 3 = true ∧ TableLaw plan3 (queued .lineBecomesBusy).pt from
    ⟨by decide, by decide, by decide +kernel, by decide +kernel,
     fun j => (show ∀ e ∈ [PeerEntry.blank .unlisted, PeerEntry.blank .self, live (heard .idle 305 5),
        live (heard .idle 318 4), live (heard .idle 309 5)], EntryLaw 3 e by
          simp [EntryLaw, PeerEntry.blank, live]) _ (entries_queued j),
     by decide +kernel⟩

theorem driveWordLaw_queued : DriveWordLaw (queued .lineBecomesBusy) :=
  ⟨fun d h => (by rcases h with h | h <;> cases h), by decide +kernel, by decide +kernel⟩

/-- Every other member of the set reports the session's token in CONTACT. -/
theorem setAgrees_agreed3 : SetAgrees plan3 agreed3.pt tok [.contact, .lift] := by
  have members : ∀ j, isMember plan3 j = true → j ≠ plan3.node → j = 4 ∨ j = 5 ∨ j = 6 := by
    decide +kernel
  refine ⟨by decide +kernel, fun j hm hj => ?_⟩
  rcases members j hm hj with rfl | rfl | rfl
  · exact ⟨heard .contact 305 5, ⟨rfl, rfl, .inl rfl, rfl⟩, List.mem_cons_self⟩
  · exact ⟨heard .contact 318 4, ⟨rfl, rfl, .inl rfl, rfl⟩, List.mem_cons_self⟩
  · exact ⟨heard .contact 309 5, ⟨rfl, rfl, .inl rfl, rfl⟩, List.mem_cons_self⟩

theorem conditionsGone_gone3 (c : Cause) (_ : hasFlag gone3.tm.flags c = true) :
    ¬ ConditionStands gone3 c := by
  cases c <;> unfold ConditionStands <;> decide +kernel

/-- A run of a CLEAR is the frame it spells. -/
theorem witness_GoodRunIsSound : judgeRun clearRun = some clearOf5 := by decide +kernel

/-! ### Witnesses: a state and operands that meet the hypotheses of each statement, clause by clause -/

theorem witness_CommandsKeepTheRest :
    reachesPlanStore .lineBecomesBusy = false ∧ reachesTable (.halt 4 4 { cause := .stall, lift := 0, peer := none }) = false
      ∧ reachesEpoch .controlPeriodExpiry = false ∧ reachesColumn .contactTimeout = false
      ∧ reachesServiceLine (.clear 4 4) = false ∧ reachesMask .summary = false
      ∧ reachesReceiver .controlPeriodExpiry = false ∧ unhanded.ps.plan = none := by decide +kernel

theorem witness_DeferralOfHead :
    frameKind ownHalt.frame = .halt ∧ ownHalt.attempts = 0
      ∧ { ownHalt with attempts := 1 }.attempts ≠ 0 ∧ frameKind ownReport.frame = .report := by decide

/-- A release of STOP from a pressed line. -/
theorem witness_StopPressEnds_release :
    let pressed := after (.stopPress true) (node3 .idle none)
    pressed.ci.levels.stop = some true
      ∧ (after (.stopPress false) pressed).ci.levels.stop = some false := by decide +kernel

theorem witness_LineIsTaken_head :
    waiting3.lau.deferral.isSome = true ∧ waiting3.lau.transmitter = none ∧ waiting3.ps.plan.isSome = true
      ∧ waiting3.lau.urgent = [] ∧ waiting3.lau.normal = [ownReport]
      ∧ { waiting3.lau with urgent := [ownHalt] }.urgent = [ownHalt] := by decide +kernel

theorem witness_StepRunsFront :
    ∃ (c : Instr) (rest : List Instr) (s : State), s.pending = c :: rest :=
  ⟨.summary, [], (queued .summary), by decide +kernel⟩

theorem witness_ResetAndRestart :
    (∃ (s : State), s.sp.parser = [] ∧ s.sp.breakHeld = false ∧ s.ps.op = .none) ∧
    (∃ (s : State), s.sp.parser = [] ∧ s.sp.breakHeld = false ∧ s.ps.op ≠ .none) :=
  ⟨⟨(node3 .idle none), by decide +kernel⟩,
  ⟨storing3, by decide +kernel⟩⟩

theorem witness_FrameRoundTrip :
    ∃ (f : Frame), f.wf = true :=
  ⟨ownReport.frame, by decide +kernel⟩

theorem witness_IdleEventJudgesRun :
    (∃ (s : State) (f : Frame), f.wf = true ∧ s.lau.synced = true ∧ s.lau.transmitter = none ∧ s.lau.run
      = []) ∧
    (∃ (s : State) (rest : List BusByte), s.lau.transmitter = none ∧ s.lau.synced = true ∧ s.lau.run ++
      rest ≠ [] ∧ judgeRun (s.lau.run ++ rest) = none) ∧
    (∃ (s : State), s.lau.transmitter = none ∧ s.lau.synced = false) :=
  ⟨⟨(node3 .idle none), clearOf5, by decide +kernel⟩,
  ⟨(node3 .idle none), [none], by decide +kernel⟩,
  ⟨State.reset, by decide +kernel⟩⟩

theorem witness_LineIsTaken :
    ∃ (s : State), s.lau.lineBusy = false :=
  ⟨waiting3, by decide +kernel⟩

theorem witness_CollisionsAreCounted :
    (∃ (s : State) (q : Queued) (i : Nat) (b : Byte) (back : BusByte), s.lau.transmitter = some q ∧
      (frameBytes q.frame)[i]? = some b ∧ back ≠ some b ∧ q.attempts + 1 < 16 ∧ (frameKind q.frame =
      .halt ∨ frameKind q.frame = .clear)) ∧
    (∃ (s : State) (q : Queued) (i : Nat) (b : Byte) (back : BusByte), s.lau.transmitter = some q ∧
      (frameBytes q.frame)[i]? = some b ∧ back ≠ some b ∧ q.attempts + 1 < 16 ∧ (frameKind q.frame =
      .report ∨ frameKind q.frame = .motion)) ∧
    (∃ (s : State) (p : Plan) (q : Queued) (i : Nat) (b : Byte) (back : BusByte), s.ps.plan = some p ∧
      s.lau.transmitter = some q ∧ (frameBytes q.frame)[i]? = some b ∧ back ≠ some b ∧ q.attempts = 15 ∧
      NotHalted s) ∧
    (∃ (s : State) (p : Plan) (q : Queued) (i : Nat) (b : Byte) (back : BusByte), s.ps.plan = some p ∧
      s.lau.transmitter = some q ∧ (frameBytes q.frame)[i]? = some b ∧ back ≠ some b ∧ q.attempts = 15 ∧
      s.tm.record.isSome = true) :=
  ⟨⟨haltBehindHalt, ownHalt, 2, 3, some 20, by decide +kernel⟩,
  ⟨(joined ownReport), ownReport, 2, 3, none, by decide +kernel⟩,
  ⟨(sendingLast sending3), plan3, { ownReport with attempts := 15 }, 0, 0x9A, none,
    by unfold NotHalted; decide +kernel⟩,
  ⟨(sendingLast halted3), plan3, { ownReport with attempts := 15 }, 0, 0x9A, none, by decide +kernel⟩⟩

theorem witness_TransmissionActs :
    (∃ (s : State) (q : Queued), s.lau.transmitter = some q ∧ (frameKind q.frame = .report ∨ frameKind
      q.frame = .halt)) ∧
    (∃ (s : State) (q : Queued) (m : Motion), s.lau.transmitter = some q ∧ q.frame.body = .motion m) ∧
    (∃ (s : State) (q : Queued), s.lau.transmitter = some q ∧ q.frame.body = .clear) :=
  ⟨⟨sending3, ownReport, by decide +kernel⟩,
  ⟨(sends (.motion (.finish tok))), (ownFrame (.motion (.finish tok))), .finish tok, by decide +kernel⟩,
  ⟨(sends .clear), (ownFrame .clear), by decide +kernel⟩⟩

theorem witness_FramesNotHandedOn :
    (∃ (s : State) (f : Frame), f.wf = true ∧ s.lau.synced = true ∧ s.lau.transmitter = none ∧ s.ps.plan
      = none) ∧
    (∃ (s : State) (f : Frame) (p : Plan), f.wf = true ∧ s.lau.synced = true ∧ s.lau.transmitter = none
      ∧ s.ps.plan = some p ∧ f.sender ≠ p.node ∧ isMember p f.sender = false ∧ frameKind f ≠ .report) ∧
    (∃ (s : State) (p : Plan) (f : Frame), f.wf = true ∧ s.lau.synced = true ∧ s.lau.transmitter = none
      ∧ s.ps.plan = some p ∧ f.sender = p.node ∧ NotHalted s) ∧
    (∃ (s : State) (p : Plan) (f : Frame), f.wf = true ∧ s.lau.synced = true ∧ s.lau.transmitter = none
      ∧ s.ps.plan = some p ∧ f.sender = p.node ∧ s.tm.record.isSome = true) :=
  ⟨⟨unplanned3, clearOf5, by decide +kernel⟩,
  ⟨(node3 .idle none), { clearOf5 with sender := 9 }, plan3, by decide +kernel⟩,
  ⟨(node3 .idle none), plan3, { clearOf5 with sender := 3 }, by unfold NotHalted; decide +kernel⟩,
  ⟨halted3, plan3, { clearOf5 with sender := 3 }, by decide +kernel⟩⟩

theorem witness_ReportIsRecorded :
    ∃ (s : State) (p : Plan) (n : NodeNum) (e : Byte) (r : ReportBody), ReportActsNot s n e r ∧ Hears s
      p n ∧ r.wf = true :=
  ⟨(node3 .idle none), plan3, 9, 4, (bodyOf { heard .halted 0 0 with halt := some .stall }), .inl
    (by unfold LeavesLive; decide +kernel), by unfold Hears; decide +kernel⟩

theorem witness_LiveReportActs :
    (∃ (s : State) (p : Plan) (n : NodeNum) (r : ReportBody), Hears s p n ∧ r.wf = true ∧ r.epochKnown =
      true ∧ NotHalted s ∧ ((s.pt.entry n).state = .expected ∨ (s.pt.entry n).state = .live ∨
      (s.pt.entry n).state = .mismatched ∨ (s.pt.entry n).state = .silent) ∧ s.ps.fingerprint = some
      r.fingerprint ∧ s.tm.epoch = none ∧ r.halt = none) ∧
    (∃ (s : State) (p : Plan) (n : NodeNum) (e : Byte) (r : ReportBody) (c : Cause), Hears s p n ∧ r.wf
      = true ∧ r.epochKnown = true ∧ NotHalted s ∧ ((s.pt.entry n).state = .expected ∨ (s.pt.entry
      n).state = .live ∨ (s.pt.entry n).state = .mismatched ∨ (s.pt.entry n).state = .silent) ∧
      s.ps.fingerprint = some r.fingerprint ∧ s.tm.epoch = some e ∧ r.halt = some c ∧ s.ci.levels.estop
      ≠ some true ∧ s.ci.levels.driveFault ≠ some true) :=
  ⟨⟨epochless3, plan3, 4, (bodyOf (heard .idle 0 0)), by unfold Hears NotHalted; decide +kernel⟩,
  ⟨(node3 .lift (some (session .running .up 1))), plan3, 4, 4, (bodyOf
    { heard .halted 0 0 with halt := some .stall }), .stall, by unfold Hears NotHalted; decide +kernel⟩⟩

theorem witness_ExpiryAgesTable :
    ∃ (s : State) (p : Plan), s.ps.plan = some p ∧ s.pu.timer.isSome = true ∧ s.su.session = none ∧
      s.su.press = .none ∧ isMoving s.phc.phase = false :=
  ⟨(node3 .idle none), plan3, by decide +kernel⟩

theorem witness_SilentPeerHalts :
    ∃ (s : State) (p : Plan) (j : NodeNum), s.ps.plan = some p ∧ s.pu.timer.isSome = true ∧ s.tm.record
      = none ∧ (isMoving s.phc.phase = true ∨ s.su.session.isSome = true) ∧ (s.pt.entry j).state = .live
      ∧ p.kSil ≤ (s.pt.entry j).silence + 1 ∧ (∀ i, i.val < j.val → (s.pt.entry i).state = .live →
      (s.pt.entry i).silence + 1 < p.kSil) :=
  ⟨ageing3, plan3, 4, by decide +kernel⟩

theorem witness_KeepCountDecides :
    (∃ (s : State) (p : Plan) (ss : Session), s.ps.plan = some p ∧ s.pu.timer.isSome = true ∧
      s.su.session = some ss ∧ ss.keep + 1 < p.kKeep ∧ fallingSilent p.kSil s.pt = []) ∧
    (∃ (s : State) (p : Plan) (ss : Session), s.ps.plan = some p ∧ s.pu.timer.isSome = true ∧
      s.su.session = some ss ∧ p.kKeep ≤ ss.keep + 1 ∧ EndGoesOn s ∧ fallingSilent p.kSil s.pt = []) ∧
    (∃ (s : State) (p : Plan), s.ps.plan = some p ∧ s.pu.timer.isSome = true ∧ s.su.session = none ∧
      fallingSilent p.kSil s.pt = []) :=
  ⟨⟨holding3, plan3, { session .running .up 1 with keep := 2 }, by decide +kernel⟩,
  ⟨(waits (node3 .lift (some { session .running .up 1 with keep := 3 }))), plan3,
    { session .running .up 1 with keep := 3 }, by unfold EndGoesOn NothingTrips; decide +kernel⟩,
  ⟨(waits (node3 .idle none)), plan3, by decide +kernel⟩⟩

theorem witness_OpeningIsTaken :
    (∃ (s : State) (p : Plan) (d : Direction) (n : NodeNum) (q : Byte), (∀ t d' ps', s.su.press =
      .waiting t d' ps' → t ≠ ⟨n, q⟩) ∧ Hears s p n ∧ isMember p n = true ∧ s.su.session = none ∧
      (((s.phc.phase = .starting ∨ s.phc.phase = .halted) ∨ (d = .down ∧ (s.phc.phase = .idle ∨
      s.phc.phase = .hold))))) ∧
    (∃ (s : State) (p : Plan) (ss : Session) (n : NodeNum), Hears s p n ∧ isMember p n = true ∧
      s.su.session = some ss ∧ ss.token.originator = n) ∧
    (∃ (s : State) (p : Plan) (f : Queued) (d : Direction) (q : Byte) (ps : Preset) (d' : Direction)
      (ps' : Preset), s.ps.plan = some p ∧ isMember p p.node = true ∧ s.lau.transmitter = some f ∧
      f.frame.sender = p.node ∧ ((f.frame.body = .motion (.start d q ps) ∨ f.frame.body = .motion (.keep
      d q ps))) ∧ s.su.session = none ∧ s.su.press = .waiting ⟨p.node, q⟩ d' ps' ∧ (((s.phc.phase =
      .starting ∨ s.phc.phase = .halted) ∨ (d = .down ∧ (s.phc.phase = .idle ∨ s.phc.phase = .hold)) ∨
      (d = .up ∧ (s.phc.phase = .idle ∧ s.ps.adopted = true ∨ s.phc.phase = .hold) ∧ s.tm.record = none
      ∧ NothingTrips s ∧ s.ci.levels.limitUp ≠ some true ∧ s.ci.levels.driveReady ≠ some false)))) :=
  ⟨⟨(node3 .hold none), plan3, .down, 4, 8, fun _ _ _ h => Press.noConfusion h,
    by unfold Hears; decide +kernel⟩,
  ⟨(node3 .lift (some (session .running .up 1))), plan3, (session .running .up 1), 4,
    by unfold Hears; decide +kernel⟩,
  ⟨(starts (node3 .idle none)), plan3, (ownFrame (.motion (.start .up 7 1))), .up, 7, 1, .up, 1,
    by unfold NothingTrips; decide +kernel⟩⟩

theorem witness_OpeningUpStartsColumn :
    (∃ (s : State) (p : Plan) (n : NodeNum), Hears s p n ∧ isMember p n = true ∧ s.su.session = none ∧
      s.tm.record = none ∧ NothingTrips s ∧ s.ci.levels.limitUp ≠ some true ∧ s.ci.levels.driveReady ≠
      some false ∧ (s.phc.phase = .idle ∧ s.ps.adopted = true ∨ s.phc.phase = .hold)) ∧
    (∃ (s : State) (p : Plan) (n : NodeNum), Hears s p n ∧ isMember p n = true ∧ s.su.session = none ∧
      s.tm.record = none ∧ s.phc.phase = .idle ∧ s.ps.adopted = true ∧ s.ci.levels.driveReady = some
      false) :=
  ⟨⟨(node3 .idle none), plan3, 4, by unfold Hears NothingTrips; decide +kernel⟩,
  ⟨notReady3, plan3, 4, by unfold Hears; decide +kernel⟩⟩

theorem witness_OtherTokenEndsSession :
    (∃ (s : State) (p : Plan) (d : Direction) (ss : Session) (n : NodeNum) (q : Byte), Hears s p n ∧
      isMember p n = true ∧ s.su.session = some ss ∧ (ss.token.originator ≠ n ∨ (ss.token = ⟨n, q⟩ ∧
      ss.dir ≠ d)) ∧ EndGoesOn s) ∧
    (∃ (s : State) (p : Plan) (d : Direction) (ss : Session) (n : NodeNum) (q : Byte), EndGoesOn s ∧ (d
      = .up → (stoppedPhase s.phc.phase = .idle ∨ stoppedPhase s.phc.phase = .hold) → s.tm.record = none
      ∧ NothingTrips s) ∧ (∀ t d' ps', s.su.press = .waiting t d' ps' → t ≠ ⟨n, q⟩) ∧ Hears s p n ∧
      isMember p n = true ∧ s.su.session = some ss ∧ ss.token.originator = n ∧ ss.token.sequence ≠ q ∧
      (d = .up → stoppedPhase s.phc.phase = .idle → s.ci.levels.limitUp ≠ some true ∧
      s.ci.levels.driveReady ≠ some false)) :=
  ⟨⟨(waits (node3 .contact (some (session .pending .up 1)))), plan3, .up, (session .pending .up 1), 5, 8,
    by unfold Hears EndGoesOn NothingTrips; decide +kernel⟩,
  ⟨(node3 .contact (some (session .pending .up 1))), plan3, .up, (session .pending .up 1), 4, 9,
    by unfold EndGoesOn NothingTrips; decide +kernel, by unfold NothingTrips; decide +kernel,
    fun _ _ _ h => Press.noConfusion h, by unfold Hears; decide +kernel⟩⟩

theorem witness_EndStops :
    (∃ (s : State) (p : Plan) (n : NodeNum) (k : Token) (ss : Session), Hears s p n ∧ isMember p n =
      true ∧ s.su.session = some ss ∧ ss.token = k) ∧
    (∃ (s : State) (p : Plan) (n : NodeNum) (k : Token) (ss : Session), Hears s p n ∧ isMember p n =
      true ∧ s.su.session = some ss ∧ ss.token = k ∧ EndGoesOn s) ∧
    (∃ (s : State) (p : Plan) (n : NodeNum) (k : Token), (∀ ss, s.su.session = some ss → ss.token ≠ k) ∧
      Hears s p n ∧ isMember p n = true) :=
  ⟨⟨(node3 .lift (some (session .running .up 1))), plan3, 4, tok, (session .running .up 1),
    by unfold Hears; decide +kernel⟩,
  ⟨(node3 .contact (some (session .pending .up 1))), plan3, 4, tok, (session .pending .up 1),
    by unfold Hears EndGoesOn NothingTrips; decide +kernel⟩,
  ⟨(node3 .idle none), plan3, 4, tok, by rintro _ ⟨⟩, by unfold Hears; decide +kernel⟩⟩

theorem witness_HaltFrameHalts :
    (∃ (s : State) (p : Plan) (n : NodeNum), Hears s p n ∧ isMember p n = true ∧ NotHalted s ∧
      s.ci.levels.estop ≠ some true ∧ s.ci.levels.driveFault ≠ some true) ∧
    (∃ (s : State) (p : Plan) (n : NodeNum), Hears s p n ∧ isMember p n = true ∧ s.tm.record.isSome =
      true) :=
  ⟨⟨(node3 .lift (some (session .running .up 1))), plan3, 4, by unfold Hears NotHalted; decide +kernel⟩,
  ⟨halted3, plan3, 4, by unfold Hears; decide +kernel⟩⟩

theorem witness_LocalTrip :
    (∃ (s : State) (p : Plan) (c : Instr) (cause : Cause), s.ps.plan = some p ∧ NotHalted s ∧
      s.phc.phase ≠ .unplanned ∧ s.lau.urgent = [] ∧ (((c = .switchChange .estop true ∧ cause = .estop ∧
      s.ci.levels.estop = some false) ∨ (c = .contactTimeout ∧ cause = .contactTimeout ∧
      s.phc.contactTimer.isSome = true) ∨ (c = .loadSilenceExpiry ∧ cause = .loadSilent ∧
      s.ci.loadTimer.isSome = true)))) ∧
    (∃ (s : State) (p : Plan) (c : Instr) (cause : Cause), s.ps.plan = some p ∧ s.tm.record.isSome =
      true ∧ s.phc.phase ≠ .unplanned ∧ (((c = .switchChange .estop true ∧ cause = .estop ∧
      s.ci.levels.estop = some false) ∨ (c = .contactTimeout ∧ cause = .contactTimeout ∧
      s.phc.contactTimer.isSome = true) ∨ (c = .loadSilenceExpiry ∧ cause = .loadSilent ∧
      s.ci.loadTimer.isSome = true)))) ∧
    (∃ (s : State) (p : Plan) (a : Bool) (w : Word) (b : Bool) (f : Bool), s.ps.plan = some p ∧
      PlanInRange p ∧ s.ci.read = .inFlight ∧ NotHalted s ∧ NothingTrips s ∧ s.ci.levels.limitUp ≠ some
      true ∧ s.ci.levels.limitDown ≠ some true ∧ s.ci.levels.driveReady ≠ some false ∧ ReadQuiet s
      (readValid a w b f)) ∧
    (∃ (s : State) (p : Plan) (a : Bool) (w : Word) (b : Bool) (f : Bool), s.ps.plan = some p ∧
      PlanInRange p ∧ s.ci.read = .inFlight ∧ s.phc.phase = .halted ∧ s.tm.record.isSome = true ∧
      ReadQuiet s (readValid a w b f)) :=
  ⟨⟨(node3 .lift (some (session .running .up 1))), plan3, .switchChange .estop true, .estop,
    by unfold NotHalted; decide +kernel⟩,
  ⟨halted3, plan3, .switchChange .estop true, .estop, by decide +kernel⟩,
  ⟨(lifting3 1), plan3, false, 0, true, true,
    by unfold PlanInRange NotHalted NothingTrips ReadQuiet; decide +kernel⟩,
  ⟨judgedHalted3, plan3, false, 0, true, true, by unfold PlanInRange ReadQuiet; decide +kernel⟩⟩

theorem witness_ClearIsTaken :
    (∃ (s : State) (p : Plan) (n : NodeNum), Hears s p n ∧ isMember p n = true ∧ NotHalted s ∧
      s.tm.flags = 0 ∧ s.tm.travelSide = none) ∧
    (∃ (s : State) (p : Plan) (n : NodeNum), (∀ c, hasFlag s.tm.flags c = true → ¬ ConditionStands s c)
      ∧ Hears s p n ∧ isMember p n = true ∧ s.phc.phase = .halted ∧ s.tm.record.isSome = true ∧
      s.su.session = none ∧ NothingTrips s ∧ s.ci.contactHeight.isSome = true) :=
  ⟨⟨(node3 .lift (some (session .running .up 1))), plan3, 4, by unfold Hears NotHalted; decide +kernel⟩,
  ⟨gone3, plan3, 4, conditionsGone_gone3, by unfold Hears NothingTrips; decide +kernel⟩⟩

theorem witness_ClearReevaluates :
    (∃ (s : State) (p : Plan) (n : NodeNum), Hears s p n ∧ isMember p n = true ∧ s.phc.phase = .halted ∧
      s.tm.record.isSome = true ∧ hasFlag s.tm.flags .estop = true ∧ s.ci.levels.estop = some true ∧
      s.lau.urgent = []) ∧
    (∃ (s : State) (p : Plan) (n : NodeNum) (h : Word), Hears s p n ∧ isMember p n = true ∧ s.phc.phase
      = .halted ∧ s.tm.record.isSome = true ∧ (s.tm.flags = causeBit .noReference ∨ s.tm.flags = 0) ∧
      s.su.session = none ∧ s.phc.startup.done = true ∧ NothingTrips s ∧ 3 ≤ s.ci.contactRun ∧
      s.ci.contactHeight = none ∧ s.ci.height = some h) :=
  ⟨⟨estopped3, plan3, 4, by unfold Hears; decide +kernel⟩,
  ⟨unreferenced3, plan3, 4, 13312, by unfold Hears NothingTrips; decide +kernel⟩⟩

theorem witness_CatchUpEndsRemoteHalt :
    (∃ (s : State) (p : Plan) (n : NodeNum) (e : Byte) (r : ReportBody) (hr : HaltRecord), Hears s p n ∧
      r.wf = true ∧ r.epochKnown = true ∧ r.halt = none ∧ s.tm.record = some hr ∧ s.phc.phase = .halted
      ∧ (s.pt.entry n).state = .live ∧ s.ps.fingerprint = some r.fingerprint ∧ s.tm.epoch.isSome = true
      ∧ s.tm.epoch ≠ some e ∧ hr.remote = true ∧ s.tm.flags = 0 ∧ s.su.session = none ∧ NothingTrips s ∧
      s.ci.contactHeight.isSome = true ∧ s.phc.startup.done = true ∧ s.ci.contactRun < 3) ∧
    (∃ (s : State) (p : Plan) (n : NodeNum) (e : Byte) (r : ReportBody) (hr : HaltRecord), Hears s p n ∧
      r.wf = true ∧ r.epochKnown = true ∧ r.halt = none ∧ s.tm.record = some hr ∧ s.phc.phase = .halted
      ∧ (s.pt.entry n).state = .live ∧ s.ps.fingerprint = some r.fingerprint ∧ s.tm.epoch.isSome = true
      ∧ s.tm.epoch ≠ some e ∧ hr.remote = false) :=
  ⟨⟨halted3, plan3, 4, 5, (bodyOf (heard .idle 0 0)), remoteRecord,
    by unfold Hears NothingTrips; decide +kernel⟩,
  ⟨haltedHere3, plan3, 4, 5, (bodyOf (heard .idle 0 0)), { remoteRecord with remote := false },
    by unfold Hears; decide +kernel⟩⟩

theorem witness_HaltRecordKept :
    ∃ (c : Instr) (s : State) (t : State) (r : HaltRecord), (∀ x, c ≠ .idleEvent x) ∧ (∀ n e b, c =
      .report n e b → b.halt.isSome = true) ∧ (∀ n e, c ≠ .clear n e) ∧ (∀ x, c ≠ .loadComplete x) ∧ (∀
      x, c ≠ .serviceByteReceived x) ∧ (∀ x, c ≠ .unknownCommandCode x) ∧ exec c s = .next t ∧
      HaltAgrees s ∧ s.tm.record = some r ∧ c ≠ .reset ∧ c ≠ .restart ∧ c ≠ .transmissionComplete :=
  ⟨.report 4 4 (bodyOf { heard .halted 0 0 with halt := some .stall }), halted3, (after (.report 4 4
    (bodyOf { heard .halted 0 0 with halt := some .stall })) halted3), remoteRecord, by intros; simp,
    by rintro _ _ _ ⟨⟩; rfl, by intros; simp, by intros; simp, by intros; simp, by intros; simp,
    exec_after _ _, by unfold HaltAgrees; decide +kernel⟩

theorem witness_ReadCompletes :
    (∃ (s : State) (p : Plan), s.ps.plan = some p ∧ s.ci.read = .inFlight) ∧
    (∃ (s : State), s.ps.plan = none ∧ s.ci.read = .inFlightNotHanded) :=
  ⟨⟨(lifting3 1), plan3, by decide +kernel⟩,
  ⟨unhanded, by decide +kernel⟩⟩

theorem witness_DemandLaws :
    (∃ (s : State) (p : Plan), s.ps.plan = some p ∧ PlanInRange p ∧ s.ci.read = .inFlight) ∧
    (∃ (s : State) (p : Plan) (ss : Session) (a : Bool) (w : Word) (b : Bool) (f : Bool), s.ps.plan =
      some p ∧ PlanInRange p ∧ s.ci.read = .inFlight ∧ NotHalted s ∧ NothingTrips s ∧ ReadQuiet s
      (readValid a w b f) ∧ s.su.session = some ss ∧ ss.state = .running ∧ (s.phc.phase = .lift ∨
      s.phc.phase = .lower)) :=
  ⟨⟨(lifting3 1), plan3, by unfold PlanInRange; decide +kernel⟩,
  ⟨(lifting3 1), plan3, (session .running .up 1), false, 0, true, true,
    by unfold PlanInRange NotHalted NothingTrips ReadQuiet; decide +kernel⟩⟩

theorem witness_ThrottleFalls :
    ∃ (p : Plan) (v : Nat), PlanInRange p ∧ p.creep ≤ v :=
  ⟨plan3, 50, by unfold PlanInRange; decide +kernel⟩

theorem witness_ArrivalEndsMove :
    ∃ (s : State) (p : Plan), s.ps.plan = some p ∧ NothingTrips s ∧ (s.phc.phase = .lift ∨ s.phc.phase =
      .lower) ∧ hasArrived p s (ownLift s.ci) = true :=
  ⟨arrived3, plan3, by unfold NothingTrips; decide +kernel⟩

theorem witness_StartNeedsWholeSet :
    (∃ (c : Instr) (s : State) (t : State), exec c s = .next t ∧ (s.phc.phase = .contact ∧ t.phc.phase =
      .lift ∨ s.phc.phase = .hold ∧ t.phc.phase = .lower)) ∧
    (∃ (c : Instr) (s : State) (t : State) (ss : Session) (ss' : Session), exec c s = .next t ∧
      s.ps.adopted = false ∧ s.su.session = some ss ∧ ss.state = .pending ∧ t.su.session = some ss') ∧
    (∃ (s : State) (p : Plan) (ss : Session) (a : Bool) (w : Word) (b : Bool) (f : Bool), (((ss.dir =
      .up ∧ s.phc.phase = .contact ∧ SetAgrees p s.pt ss.token [.contact, .lift]) ∨ (ss.dir = .down ∧
      (s.phc.phase = .hold ∨ s.phc.phase = .idle) ∧ SetAgrees p s.pt ss.token [.hold, .lower, .idle,
      .retract]))) ∧ s.ps.plan = some p ∧ PlanInRange p ∧ s.ci.read = .inFlight ∧ NotHalted s ∧
      NothingTrips s ∧ s.ci.levels.limitUp ≠ some true ∧ s.ci.levels.limitDown ≠ some true ∧
      s.ci.levels.driveReady ≠ some false ∧ ReadQuiet s (readValid a w b f) ∧ s.su.session = some ss ∧
      ss.state = .pending ∧ s.ps.adopted = true) ∧
    (∃ (s : State) (p : Plan) (a : Bool) (w : Word) (b : Bool) (f : Bool), s.ps.plan = some p ∧
      PlanInRange p ∧ s.ci.read = .inFlight ∧ NotHalted s ∧ NothingTrips s ∧ ReadQuiet s (readValid a w
      b f) ∧ s.phc.phase = .retract ∧ s.ci.height.isSome = true) :=
  ⟨⟨.positionReadComplete false 8312 (evenParity 8312) true, agreed3, (after (.positionReadComplete false
    8312 (evenParity 8312) true) agreed3), exec_after _ _, by decide +kernel⟩,
  ⟨.positionReadComplete false 8312 (evenParity 8312) true, unadopted3, (after (.positionReadComplete
    false 8312 (evenParity 8312) true) unadopted3), (session .pending .up 1), (session .pending .up 1),
    exec_after _ _, by decide +kernel⟩,
  ⟨agreed3, plan3, (session .pending .up 1), false, 0, true, true, .inl ⟨rfl, rfl, setAgrees_agreed3⟩,
    by unfold PlanInRange NotHalted NothingTrips ReadQuiet; decide +kernel⟩,
  ⟨retracting3, plan3, false, 0, true, true,
    by unfold PlanInRange NotHalted NothingTrips ReadQuiet; decide +kernel⟩⟩

theorem witness_LockMonitorTable :
    (∃ (w : Nat) (e : Nat), w ≤ e) ∧
    (∃ (w : Nat) (e : Nat) (run : Nat), e < w ∧ run + 1 < 4) ∧
    (∃ (w : Nat) (e : Nat) (run : Nat), e < w ∧ run + 1 = 4) ∧
    (∃ (w : Nat) (e : Nat), 2 * w ≤ e) ∧
    (∃ (w : Nat) (e : Nat), w / 2 ≤ e ∧ e < 2 * w) ∧
    (∃ (w : Nat) (e : Nat) (run : Nat), e < w / 2 ∧ run + 1 < 16) ∧
    (∃ (w : Nat) (e : Nat) (run : Nat), e < w / 2 ∧ run + 1 = 16) ∧
    (∃ (w : Nat) (e : Nat), w ≤ e ∧ e < 2 * w) ∧
    (∃ (w : Nat) (e : Nat), e < w) :=
  ⟨⟨20, 20, by decide +kernel⟩,
  ⟨20, 19, 2, by decide +kernel⟩,
  ⟨20, 19, 3, by decide +kernel⟩,
  ⟨20, 40, by decide +kernel⟩,
  ⟨20, 10, by decide +kernel⟩,
  ⟨20, 9, 14, by decide +kernel⟩,
  ⟨20, 9, 15, by decide +kernel⟩,
  ⟨20, 39, by decide +kernel⟩,
  ⟨20, 19, by decide +kernel⟩⟩

theorem witness_StepSelectorLaws :
    (∃ (p : Plan), PlanInRange p) ∧
    (∃ (p : Plan) (mean : Nat) (k : Step), PlanInRange p ∧ mean ≤ 65535 ∧ k ≤ proposal p mean) ∧
    (∃ (p : Plan) (mean : Nat) (k : Step), PlanInRange p ∧ mean ≤ 65535 ∧ proposal p mean < k) :=
  ⟨⟨plan3, by unfold PlanInRange; decide +kernel⟩,
  ⟨plan3, 12, 5, by unfold PlanInRange; decide +kernel⟩,
  ⟨plan3, 13, 5, by unfold PlanInRange; decide +kernel⟩⟩

theorem witness_TransferCompletes :
    (∃ (s : State) (d : DemandWord), s.ci.transfer = some d) ∧
    (∃ (s : State) (p : Plan), s.ps.plan = some p ∧ s.ci.read = .inFlight ∧ (s.ci.transfer = none →
      s.ci.nextWord = none)) :=
  ⟨⟨State.reset, { value := 0, parity := false }, by decide +kernel⟩,
  ⟨(lifting3 1), plan3, by decide +kernel⟩⟩

theorem witness_LoadSampleCounts :
    (∃ (s : State) (p : Plan), s.ps.plan = some p ∧ s.ci.startSamples = 3 ∧ (s.phc.phase = .idle ∨
      s.phc.phase = .starting ∨ s.phc.phase = .retract ∨ s.phc.phase = .halted)) ∧
    (∃ (s : State), s.ps.plan = none) ∧
    (∃ (n : Nat), n ≠ 16) ∧
    (∃ (s : State) (p : Plan) (w : Word), s.ps.plan = some p ∧ s.ci.startSamples = 3 ∧ s.tm.record =
      none ∧ w.toNat < p.contactLevel / 2 ∧ 2 ≤ s.ci.lossRun ∧ w.toNat ≤ p.padRating ∧ (s.phc.phase =
      .contact ∨ s.phc.phase = .lift ∨ s.phc.phase = .hold) ∧ s.ci.levels.estop ≠ some true ∧
      s.ci.levels.driveFault ≠ some true) ∧
    (∃ (s : State) (p : Plan) (w : Word), s.ps.plan = some p ∧ s.ci.startSamples = 3 ∧ s.tm.record =
      none ∧ p.padRating < w.toNat ∧ p.contactLevel ≤ w.toNat ∧ 1 ≤ s.ci.overloadRun ∧ (s.phc.phase =
      .approach ∨ s.phc.phase = .contact ∨ s.phc.phase = .lift ∨ s.phc.phase = .hold ∨ s.phc.phase =
      .lower) ∧ s.ci.levels.estop ≠ some true ∧ s.ci.levels.driveFault ≠ some true ∧ s.ci.levels.nut ≠
      some true) :=
  ⟨⟨(node3 .idle none), plan3, by decide +kernel⟩,
  ⟨State.reset, by decide +kernel⟩,
  ⟨15, by decide +kernel⟩,
  ⟨losing3, plan3, 249, by decide +kernel⟩,
  ⟨overloading3, plan3, 15001, by decide +kernel⟩⟩

theorem witness_ContactIsMade :
    ∃ (s : State) (p : Plan) (w : Word), s.ps.plan = some p ∧ s.phc.phase = .approach ∧
      s.ci.startSamples = 3 ∧ p.contactLevel ≤ w.toNat ∧ w.toNat ≤ p.padRating ∧ 2 ≤ s.ci.contactRun ∧
      NothingTrips s :=
  ⟨touching3, plan3, 500, by unfold NothingTrips; decide +kernel⟩

theorem witness_UnloadingInLower :
    (∃ (s : State) (p : Plan) (w : Word) (c : ControlSample), s.ps.plan = some p ∧ s.phc.phase = .lower
      ∧ s.ci.startSamples = 3 ∧ s.pu.sample = some c ∧ s.ci.contactHeight.isSome = true ∧ w.toNat <
      p.contactLevel ∧ w.toNat ≤ p.padRating ∧ 2 ≤ s.ci.unloadRun ∧ NothingTrips s ∧
      s.ci.levels.limitDown ≠ some true ∧ s.tm.record = none ∧ c.lift.toInt ≤ p.unloadZone.toInt) ∧
    (∃ (s : State) (p : Plan) (w : Word) (c : ControlSample), s.ps.plan = some p ∧ s.phc.phase = .lower
      ∧ s.ci.startSamples = 3 ∧ s.pu.sample = some c ∧ s.ci.contactHeight.isSome = true ∧ w.toNat <
      p.contactLevel ∧ w.toNat ≤ p.padRating ∧ 2 ≤ s.ci.unloadRun ∧ NothingTrips s ∧
      s.ci.levels.limitDown ≠ some true ∧ s.tm.record = none ∧ p.unloadZone.toInt < c.lift.toInt ∧ 2 ≤
      s.ci.lossRun ∧ w.toNat < p.contactLevel / 2) :=
  ⟨⟨(unloading3 150), plan3, 249, (lowered 150), by unfold NothingTrips; decide +kernel⟩,
  ⟨(unloading3 151), plan3, 249, (lowered 151), by unfold NothingTrips; decide +kernel⟩⟩

theorem witness_StartupEnds :
    (∃ (s : State) (p : Plan) (w : Word), s.ps.plan = some p ∧ s.phc.phase = .starting ∧ s.tm.record =
      none ∧ s.ci.startSamples = 2 ∧ s.phc.startup.validRead = true ∧ s.phc.startup.done = false ∧
      s.su.session = none ∧ NothingTrips s ∧ w.toNat < p.contactLevel) ∧
    (∃ (s : State) (p : Plan) (w : Word), s.ps.plan = some p ∧ s.phc.phase = .starting ∧ s.tm.record =
      none ∧ s.ci.startSamples = 2 ∧ s.phc.startup.validRead = true ∧ s.phc.startup.done = false ∧
      s.su.session = none ∧ NothingTrips s ∧ p.contactLevel ≤ w.toNat ∧ 2 ≤ s.ci.contactRun) :=
  ⟨⟨starting3, plan3, 499, by unfold NothingTrips; decide +kernel⟩,
  ⟨starting3, plan3, 500, by unfold NothingTrips; decide +kernel⟩⟩

theorem witness_InputsSettle :
    (∃ (s : State), s.ci.inputsSettled = false ∧ s.ci.levels = .unsettled ∧ s.phc.phase = .unplanned ∧
      s.ps.op = .none) ∧
    (∃ (s : State), s.ci.inputsSettled = true) :=
  ⟨⟨State.reset, by decide +kernel⟩,
  ⟨(node3 .idle none), by decide +kernel⟩⟩

theorem witness_SwitchesAndDriveStatus :
    (∃ (s : State) (p : Plan), s.ps.plan = some p ∧ NotHalted s ∧ s.ci.levels.limitUp = some false ∧
      s.ci.levels.limitDown = some false ∧ (s.phc.phase = .approach ∨ s.phc.phase = .lift)) ∧
    (∃ (s : State) (p : Plan), s.ps.plan = some p ∧ NotHalted s ∧ s.ci.levels.limitUp = some false ∧
      s.ci.levels.limitDown = some false ∧ (s.phc.phase = .lower ∨ s.phc.phase = .retract)) ∧
    (∃ (s : State) (p : Plan), s.ps.plan = some p ∧ NotHalted s ∧ s.ci.levels.limitUp = some false ∧
      s.ci.levels.limitDown = some false ∧ s.phc.phase ≠ .approach ∧ s.phc.phase ≠ .lift) ∧
    (∃ (s : State) (p : Plan), s.ps.plan = some p ∧ NotHalted s ∧ s.ci.levels.limitUp = some false ∧
      s.ci.levels.limitDown = some false ∧ s.phc.phase ≠ .lower ∧ s.phc.phase ≠ .retract) ∧
    (∃ (s : State) (p : Plan), s.ps.plan = some p ∧ NotHalted s ∧ s.ci.levels.nut = some false ∧
      (isLoaded s.phc.phase = true ∨ isMoving s.phc.phase = true) ∧ s.ci.levels.estop ≠ some true ∧
      s.ci.levels.driveFault ≠ some true) ∧
    (∃ (s : State) (p : Plan), s.ps.plan = some p ∧ NotHalted s ∧ s.ci.levels.nut = some false ∧
      isLoaded s.phc.phase = false ∧ isMoving s.phc.phase = false) ∧
    (∃ (s : State) (p : Plan) (n : NodeNum), s.ps.plan = some p ∧ NotHalted s ∧ Hears s p n ∧ isMember p
      n = true ∧ s.su.session = none ∧ s.phc.phase = .hold ∧ s.ci.levels.nut = some true ∧
      s.ci.levels.estop ≠ some true ∧ s.ci.levels.driveFault ≠ some true) ∧
    (∃ (s : State), s.ci.levels.driveReady = some false ∧ s.ci.levels.driveFault = some false) ∧
    (∃ (s : State), s.ci.levels.driveFault = some true ∧ s.ci.levels.driveReady = some true) ∧
    (∃ (s : State) (p : Plan), s.ps.plan = some p ∧ NotHalted s ∧ s.ci.levels.driveFault = some false) :=
  ⟨⟨(node3 .lift (some (session .running .up 1))), plan3, by unfold NotHalted; decide +kernel⟩,
  ⟨(node3 .lower (some (session .running .down 0))), plan3, by unfold NotHalted; decide +kernel⟩,
  ⟨(node3 .lower (some (session .running .down 0))), plan3, by unfold NotHalted; decide +kernel⟩,
  ⟨(node3 .lift (some (session .running .up 1))), plan3, by unfold NotHalted; decide +kernel⟩,
  ⟨(node3 .lift (some (session .running .up 1))), plan3, by unfold NotHalted; decide +kernel⟩,
  ⟨(node3 .idle none), plan3, by unfold NotHalted; decide +kernel⟩,
  ⟨nutMade3, plan3, 4, by unfold NotHalted Hears; decide +kernel⟩,
  ⟨notReady3, by decide +kernel⟩,
  ⟨driveFaulted3, by decide +kernel⟩,
  ⟨(node3 .idle none), plan3, by unfold NotHalted; decide +kernel⟩⟩

theorem witness_PressComposesStart :
    (∃ (s : State) (p : Plan) (d : Direction), s.ps.plan = some p ∧ s.ci.levels.up.isSome = true ∧
      s.ci.levels.down.isSome = true ∧ s.ci.held ≠ some d ∧ isDeaf s.phc.phase = false ∧ s.ps.adopted =
      true) ∧
    (∃ (s : State) (p : Plan) (d : Direction), (s.ci.held = none ∨ s.su.press = .none ∨ ∃ k d' ps,
      s.su.press = .spent k d' ps) ∧ s.ps.plan = some p ∧ s.ci.levels.up.isSome = true ∧
      s.ci.levels.down.isSome = true ∧ s.ci.held ≠ some d ∧ (isDeaf s.phc.phase = true ∨ s.ps.adopted =
      false)) :=
  ⟨⟨(node3 .idle none), plan3, .up, by decide +kernel⟩,
  ⟨(node3 .starting none), plan3, .up, .inl rfl, by decide +kernel⟩⟩

theorem witness_ReleaseComposesEnd :
    (∃ (s : State) (p : Plan) (d : Direction) (k : Token) (d' : Direction) (ps : Preset), s.ps.plan =
      some p ∧ s.ci.held = some d ∧ s.ci.levels.up.isSome = true ∧ s.ci.levels.down.isSome = true ∧
      (s.su.press = .waiting k d' ps ∨ s.su.press = .held k d' ps)) ∧
    (∃ (s : State) (p : Plan) (d : Direction), (s.su.press = .none ∨ ∃ k d' ps, s.su.press = .spent k d'
      ps) ∧ s.ps.plan = some p ∧ s.ci.held = some d ∧ s.ci.levels.up.isSome = true ∧
      s.ci.levels.down.isSome = true) :=
  ⟨⟨pressed3, plan3, .up, tok, .up, 1, by decide +kernel⟩,
  ⟨{ pressed3 with su := SessionUnit.reset }, plan3, .up, .inl rfl, by decide +kernel⟩⟩

theorem witness_StopPressEnds :
    (∃ (s : State) (p : Plan) (ss : Session), s.ci.levels.stop = some false ∧ s.ps.plan = some p ∧
      s.su.session = some ss ∧ isDeaf s.phc.phase = false) ∧
    (∃ (s : State) (p : Plan) (k : Token) (d : Direction) (ps : Preset), s.ci.levels.stop = some false ∧
      s.ps.plan = some p ∧ s.su.session = none ∧ s.su.press = .waiting k d ps ∧ isDeaf s.phc.phase =
      false) ∧
    (∃ (s : State), (∀ k d ps, s.su.press ≠ .waiting k d ps) ∧ s.ci.levels.stop = some false ∧
      s.su.session = none) ∧
    (∃ (s : State), s.ci.levels.stop = some false ∧ isDeaf s.phc.phase = true) :=
  ⟨⟨(node3 .lift (some (session .running .up 1))), plan3, (session .running .up 1), by decide +kernel⟩,
  ⟨{ pressed3 with lau := waiting3.lau }, plan3, tok, .up, 1, by decide +kernel⟩,
  ⟨(node3 .idle none), fun _ _ _ h => Press.noConfusion h, by decide +kernel⟩,
  ⟨halted3, by decide +kernel⟩⟩

theorem witness_ResetRequestClears :
    (∃ (s : State), s.ci.levels.resetReq = some false) ∧
    (∃ (s : State), s.ci.holdTimer.isSome = true ∧ s.tm.record = none) ∧
    (∃ (s : State) (p : Plan), s.ci.holdTimer.isSome = true ∧ s.tm.record.isSome = true ∧ s.ps.plan =
      some p) :=
  ⟨⟨(node3 .idle none), by decide +kernel⟩,
  ⟨(after (.resetReqChange true) (node3 .idle none)), by decide +kernel⟩,
  ⟨(after (.resetReqChange true) halted3), plan3, by decide +kernel⟩⟩

theorem witness_AdoptionIsStable :
    ∃ (m : Machine.Memory), failingCheck m = none :=
  ⟨image3, by decide +kernel⟩

theorem witness_GoodPlanIsAdopted :
    ∃ (s : State) (c : Instr) (m : Machine.Memory), (((∃ bytes, c = .loadComplete bytes ∧ m =
      Memory.ofLoad bytes ∧ s.ps.op = .load ∧ s.phc.phase = .unplanned) ∨ (c = .adopt ∧ m = s.ps.image ∧
      s.ps.op = .none ∧ s.sp.parser = [] ∧ s.sp.breakHeld = false ∧ (s.phc.phase = .unplanned ∨
      s.phc.phase = .idle ∧ s.su.session = none)))) ∧ failingCheck m = none ∧ s.ci.levels.estop ≠ some
      true ∧ s.ci.levels.driveFault ≠ some true :=
  ⟨(holdingImage (node3 .idle none)), .adopt, image3, .inr (by decide +kernel), by decide +kernel⟩

theorem witness_BadPlanIsRefused :
    ∃ (s : State) (c : Instr) (m : Machine.Memory) (sec : PlanSection) (k : PlanCheck), (((∃ bytes, c =
      .loadComplete bytes ∧ m = Memory.ofLoad bytes ∧ s.ps.op = .load ∧ s.phc.phase = .unplanned) ∨ (c =
      .adopt ∧ m = s.ps.image ∧ s.ps.op = .none ∧ s.sp.parser = [] ∧ s.sp.breakHeld = false ∧
      (s.phc.phase = .unplanned ∨ s.phc.phase = .idle ∧ s.su.session = none)))) ∧ failingCheck m = some
      (sec, k) :=
  ⟨(node3 .idle none), .adopt, (node3 .idle none).ps.image, .identity, .tag, .inr (by decide +kernel),
    by decide +kernel⟩

theorem witness_PlanCommandsGuarded :
    (∃ (s : State), s.ps.op = .none ∧ s.sp.parser = [] ∧ s.sp.breakHeld = false ∧ planPermitted s =
      false) ∧
    (∃ (s : State), s.ps.op = .none ∧ s.sp.parser = [] ∧ s.sp.breakHeld = false ∧ planPermitted s =
      true) ∧
    (∃ (s : State) (a : Word) (v : Byte) (c : Instr) (last : Byte), s.ps.op ≠ .none ∧ s.sp.parser = [] ∧
      s.sp.breakHeld = false ∧ (c = .peek a ∧ last = loByte a ∨ c = .poke a v ∧ last = v ∨ c = .peekOn ∧
      last = 0x13 ∨ c = .pokeOn v ∧ last = v ∨ c = .adopt ∧ last = 0x30 ∨ c = .store ∧ last = 0x31 ∨ c =
      .restart ∧ last = 0x3F)) :=
  ⟨⟨(node3 .hold none), by decide +kernel⟩,
  ⟨(node3 .idle none), by decide +kernel⟩,
  ⟨storing3, 0x501, 7, .restart, 0x3F, by decide +kernel⟩⟩

theorem witness_MemoryOutcomes :
    (∃ (s : State), s.ps.op = .load) ∧
    (∃ (s : State), s.ps.op = .store) ∧
    (∃ (s : State) (st : Fin 3), s.sp.pendingStore = some st ∧ s.sp.parser = [] ∧ s.sp.breakHeld =
      false) :=
  ⟨⟨loading, by decide +kernel⟩,
  ⟨storing3, by decide +kernel⟩,
  ⟨(after (.storeComplete none) storing3), 1, by decide +kernel⟩⟩

theorem witness_ServiceReads :
    (∃ (s : State), s.ps.op = .none ∧ s.sp.parser = [] ∧ s.sp.breakHeld = false) ∧
    (∃ (s : State), s.pending = [] ∧ s.sp.secondRead = true) ∧
    (∃ (s : State), s.sp.parser = [] ∧ s.sp.breakHeld = false) ∧
    (∃ (a : Nat), a < 0x100) ∧
    (∃ (i : Nat), i < 8) ∧
    (∃ (a : Nat), 0x524 ≤ a) ∧
    (∃ (s : State), HaltAgrees s) :=
  ⟨⟨(node3 .idle none), by decide +kernel⟩,
  ⟨(after .peekOn (node3 .idle none)), by decide +kernel⟩,
  ⟨(node3 .lift (some (session .running .up 1))), by decide +kernel⟩,
  ⟨0xFF, by decide +kernel⟩,
  ⟨7, by decide +kernel⟩,
  ⟨0x524, by decide +kernel⟩,
  ⟨halted3, by unfold HaltAgrees; decide +kernel⟩⟩

theorem witness_ServiceWrites :
    (∃ (s : State) (a : Word) (v : Byte) (c : Instr), s.ps.op = .none ∧ s.sp.parser = [] ∧
      s.sp.breakHeld = false ∧ s.ps.image.wf = true ∧ (c = .poke a v ∨ (c = .pokeOn v ∧ a = s.sp.pointer
      + 1)) ∧ a.toNat < 256 ∧ planPermitted s = true) ∧
    (∃ (s : State) (a : Word) (v : Byte) (c : Instr), s.ps.op = .none ∧ s.sp.parser = [] ∧
      s.sp.breakHeld = false ∧ s.ps.image.wf = true ∧ (c = .poke a v ∨ (c = .pokeOn v ∧ a = s.sp.pointer
      + 1)) ∧ ((a.toNat < 256 ∧ planPermitted s = false) ∨ (256 ≤ a.toNat ∧ a.toNat < 0x520) ∨ 0x524 ≤
      a.toNat)) ∧
    (∃ (s : State), s.ps.op = .none ∧ s.sp.parser = [] ∧ s.sp.breakHeld = false) :=
  ⟨⟨(node3 .idle none), 1, 7, .pokeOn 7, by decide +kernel⟩,
  ⟨(node3 .hold none), 255, 7, .poke 255 7, by decide +kernel⟩,
  ⟨(node3 .idle none), by decide +kernel⟩⟩

theorem witness_ServiceLineEvents :
    (∃ (s : State), s.sp.parser = [] ∧ s.sp.breakHeld = false) ∧
    (∃ (s : State) (code : Byte), serviceCodes.contains code = false ∧ s.sp.parser = [] ∧ s.sp.breakHeld
      = false) ∧
    (∃ (s : State), s.sp.breakHeld = false) :=
  ⟨⟨(node3 .idle none), by decide +kernel⟩,
  ⟨(node3 .idle none), 0x10, by decide +kernel⟩,
  ⟨(node3 .idle none), by decide +kernel⟩⟩

theorem witness_StepKeepsLanes :
    ∃ (s : State) (t : State), LanesLaw s.lau ∧ LineLaw s ∧ step s = .next t :=
  ⟨(queued .lineBecomesBusy), (after .lineBecomesBusy ((queued .lineBecomesBusy).withPending [])),
    by unfold LanesLaw; decide +kernel, by unfold LineLaw; decide +kernel, step_after _ _ rfl⟩

theorem witness_StepKeepsPhaseLaw :
    ∃ (s : State) (t : State), PhaseLaw s ∧ DriveWordLaw s ∧ step s = .next t :=
  ⟨(queued .lineBecomesBusy), (after .lineBecomesBusy ((queued .lineBecomesBusy).withPending [])),
    by unfold PhaseLaw HaltAgrees PlanAgrees DriveLaw; decide +kernel, driveWordLaw_queued, step_after _
    _ rfl⟩

theorem witness_StepKeepsQuietAndFlags :
    ∃ (s : State) (t : State), PhaseLaw s ∧ UnplannedQuiet s ∧ FlagsLaw s ∧ step s = .next t :=
  ⟨(queued .lineBecomesBusy), (after .lineBecomesBusy ((queued .lineBecomesBusy).withPending [])),
    by unfold PhaseLaw HaltAgrees PlanAgrees DriveLaw; decide +kernel,
    by unfold UnplannedQuiet; decide +kernel, by unfold FlagsLaw; decide +kernel, step_after _ _ rfl⟩

theorem witness_StepKeepsPeerLaw :
    ∃ (s : State) (t : State), PeerLaw s ∧ step s = .next t ∧ PlanAgrees s :=
  ⟨(queued .lineBecomesBusy), (after .lineBecomesBusy ((queued .lineBecomesBusy).withPending [])),
    peerLaw_queued, step_after _ _ rfl, by unfold PlanAgrees; decide +kernel⟩

theorem witness_StepKeepsMotionLaw :
    ∃ (s : State) (t : State), PhaseLaw s ∧ MotionLaw s ∧ step s = .next t :=
  ⟨(queued .lineBecomesBusy), (after .lineBecomesBusy ((queued .lineBecomesBusy).withPending [])),
    by unfold PhaseLaw HaltAgrees PlanAgrees DriveLaw; decide +kernel,
    by unfold MotionLaw HeldAgrees; exact ⟨by decide +kernel, fun _ _ _ h => Press.noConfusion h⟩,
    step_after _ _ rfl⟩

theorem witness_StepKeepsCounters :
    ∃ (s : State) (t : State), RunsLaw s.ci ∧ PaceLaw s.pu ∧ PhaseTimers s ∧ step s = .next t :=
  ⟨(queued .lineBecomesBusy), (after .lineBecomesBusy ((queued .lineBecomesBusy).withPending [])),
    by unfold RunsLaw; decide +kernel, by unfold PaceLaw; decide +kernel,
    by unfold PhaseTimers; decide +kernel, step_after _ _ rfl⟩

theorem witness_StepKeepsPlanStore :
    ∃ (s : State) (t : State), PlanLaw s ∧ ImageLaw s ∧ AdoptedLaw s ∧ AdoptedImageLaw s ∧ step s =
      .next t :=
  ⟨adopted3, (after .lineBecomesBusy (adopted3.withPending [])), planLaw_adopted3,
    by unfold ImageLaw; decide +kernel, by unfold AdoptedLaw; decide +kernel, adoptedImageLaw_adopted3,
    step_after _ _ rfl⟩

end Sys2Proof.Tests
end

section
/-! PROOFS. The head frame of the lanes, the rank of the node and the deferral of a frame (R9, R12). -/

namespace Sys2Proof.Machine

open Sys2Proof Sys2Proof.Safety

/-! ### Urgency, head frame and rank (R9, R12) -/

/-- The urgent lane is the lane of HALT and CLEAR (R9). -/
theorem isUrgent_iff (f : Frame) :
    isUrgent f = true ↔ frameKind f = .halt ∨ frameKind f = .clear := by
  unfold isUrgent
  cases frameKind f <;> simp

/-- Every other kind goes by the normal lane (R9). -/
theorem isUrgent_eq_false_iff (f : Frame) :
    isUrgent f = false ↔ frameKind f = .report ∨ frameKind f = .motion := by
  unfold isUrgent
  cases frameKind f <;> simp

theorem headFrame_eq_head? (l : LineAccess) : headFrame l = (l.urgent ++ l.normal).head? := by
  unfold headFrame
  cases l.urgent <;> rfl

theorem rank_eq (own last : NodeNum) : rank own last = (own.val + 64 - last.val - 1) % 64 := by
  simp only [rank, Fin.sub_def]
  omega

theorem rank_le (own last : NodeNum) : rank own last ≤ 63 := by
  rw [rank_eq]; omega

/-- A HALT or CLEAR on its first attempt waits 2 slots (R12). -/
theorem deferralSlots_urgent_first (own last : NodeNum) {q : Queued} (hu : isUrgent q.frame = true)
    (ha : q.attempts = 0) : deferralSlots own last q = 2 := by
  simp [deferralSlots, hu, ha]

/-- A frame that has collided waits by rank, whatever its kind (R12). -/
theorem deferralSlots_again (own last : NodeNum) {q : Queued} (ha : q.attempts ≠ 0) :
    deferralSlots own last q = 4 + rank own last := by
  simp [deferralSlots, ha]

/-- A REPORT or MOTION waits by rank on every attempt (R12). -/
theorem deferralSlots_normal (own last : NodeNum) {q : Queued} (hu : isUrgent q.frame = false) :
    deferralSlots own last q = 4 + rank own last := by
  simp [deferralSlots, hu]

end Sys2Proof.Machine

open Sys2Proof Sys2Proof.Machine Sys2Proof.Safety

/-- Settles O7, from the rank modulo 64 and the three cases of the deferral. -/
theorem deferralOfHead : Obligations.DeferralOfHead := by
  refine ⟨headFrame_eq_head?, fun own last q => ⟨rank_eq own last, ?_, ?_, ?_⟩⟩
  · exact fun hk ha => deferralSlots_urgent_first own last ((isUrgent_iff _).2 hk) ha
  · exact fun _ ha => deferralSlots_again own last ha
  · intro hk
    have hd := deferralSlots_normal own last ((isUrgent_eq_false_iff _).2 hk)
    have hr := rank_le own last
    exact ⟨hd, by omega, by omega⟩

end

section
/-! PROOFS. Frames that join the lanes: every operation that the commands share acts on the Line Access
Unit by composing frames alone, and so leaves the receiver and the transmitter (R8 to R10, R13). -/

namespace Sys2Proof.Machine

open Sys2Proof

/-- Frames have joined the lanes of a unit, one after the other, and nothing else has acted on it. -/
inductive Joined (l : LineAccess) : LineAccess → Prop where
  | refl : Joined l l
  | join (own : NodeNum) (f : Frame) {m : LineAccess} : Joined l m → Joined l (lauJoin own m f)

/-- A joining frame changes its own lane and the deferral, and a deferral only on an idle line. -/
theorem lauJoin_cases (own : NodeNum) (l : LineAccess) (f : Frame) :
    ∃ d, (l.lineBusy = true ∨ l.transmitter.isSome = true → d = l.deferral)
      ∧ lauJoin own l f =
          if isUrgent f then { l with urgent := joinLane l.urgent f, deferral := d }
          else { l with normal := joinLane l.normal f, deferral := d } := by
  unfold lauJoin
  split
  · obtain ⟨d, hd, hkept⟩ := deferAfterJoin_cases own l { l with urgent := joinLane l.urgent f }
    exact ⟨d, hkept, hd⟩
  · obtain ⟨d, hd, hkept⟩ := deferAfterJoin_cases own l { l with normal := joinLane l.normal f }
    exact ⟨d, hkept, hd⟩

/-- What frames that join leave of the unit: the receiver, `last` and the transmitter. -/
structure ReceiverKept (l m : LineAccess) : Prop where
  synced : m.synced = l.synced
  lineBusy : m.lineBusy = l.lineBusy
  run : m.run = l.run
  last : m.last = l.last
  transmitter : m.transmitter = l.transmitter

theorem lauJoin_keeps_receiver (own : NodeNum) (l : LineAccess) (f : Frame) :
    ReceiverKept l (lauJoin own l f) := by
  obtain ⟨d, -, h⟩ := lauJoin_cases own l f
  rw [h]
  split <;> exact ⟨rfl, rfl, rfl, rfl, rfl⟩

theorem Joined.receiver {l m : LineAccess} (h : Joined l m) : ReceiverKept l m := by
  induction h with
  | refl => exact ⟨rfl, rfl, rfl, rfl, rfl⟩
  | join own f _ ih =>
    obtain ⟨hs, hb, hr, hl, ht⟩ := lauJoin_keeps_receiver own _ f
    exact ⟨hs.trans ih.synced, hb.trans ih.lineBusy, hr.trans ih.run, hl.trans ih.last,
      ht.trans ih.transmitter⟩

variable {l : LineAccess} {s : State}

/-! ### Composing -/

theorem compose_joined (f : Frame) (h : Joined l s.lau) : Joined l (compose f s).lau := by
  rcases compose_cases f s with ⟨-, e⟩ | ⟨p, -, e⟩ <;> rw [e]
  · exact h
  · exact .join p.node f h

theorem composeMotion_joined (m : Motion) (h : Joined l s.lau) :
    Joined l (composeMotion m s).lau :=
  compose_joined _ h

theorem composeEndOf_joined (r : Press) (h : Joined l s.lau) : Joined l (composeEndOf r s).lau := by
  unfold composeEndOf
  split
  · exact composeMotion_joined _ h
  · exact h

/-! ### Halts and trips -/

theorem applyHalt_joined (r : HaltRecord) (h : Joined l s.lau) : Joined l (applyHalt r s).lau := by
  have h1 : Joined l (haltOrder (s.withTm { s.tm with record := some r })).lau := by
    rw [haltOrder_lau]; exact h
  exact composeEndOf_joined (s := State.withSu _ _) _ h1

theorem localHalt_joined (c : Cause) (n : Option NodeNum) (h : Joined l s.lau) :
    Joined l (localHalt c n s).lau :=
  applyHalt_joined _ (compose_joined _ h)

theorem remoteHalt_joined (c : Cause) (n : NodeNum) (w : Word) (q : Option NodeNum)
    (h : Joined l s.lau) : Joined l (remoteHalt c n w q s).lau :=
  applyHalt_joined _ h

theorem trip_joined (c : Cause) (d : Option TravelSide) (n : Option NodeNum) (h : Joined l s.lau) :
    Joined l (trip c d n s).lau := by
  rcases trip_cases c d n s with ⟨-, e⟩ | ⟨-, -, e⟩ | ⟨-, -, e⟩ <;> rw [e]
  · exact h
  · exact h
  · exact localHalt_joined _ _ h

/-- Operations that each compose frames alone do so one after the other. -/
theorem foldl_joined {α : Type} {op : State → α → State}
    (hop : ∀ (a : α) (t : State), Joined l t.lau → Joined l (op t a).lau) (as : List α)
    (h : Joined l s.lau) : Joined l (as.foldl op s).lau := by
  induction as generalizing s with
  | nil => exact h
  | cons a as ih => exact ih (hop a s h)

theorem tripAll_joined (cs : List (Cause × Option TravelSide)) (h : Joined l s.lau) :
    Joined l (tripAll cs s).lau := by
  unfold tripAll
  exact foldl_joined (fun c _ ht => trip_joined c.1 c.2 none ht) cs h

/-! ### Changes of phase -/

theorem columnAt_joined (old new : Phase) (h : Joined l s.lau) :
    Joined l (columnAt old new s).lau := by
  unfold columnAt
  extract_lets _ s1
  have h1 : Joined l s1.lau := by
    simp only [s1]; split <;> exact h
  split
  · split
    · exact trip_joined _ _ _ h1
    · split <;> exact h1
  · split
    · rw [safeDrive_lau]; exact h1
    · exact h1

theorem changePhase_joined (p : Phase) (h : Joined l s.lau) : Joined l (changePhase p s).lau := by
  have h1 : Joined l (columnAt s.phc.phase p (enterPhase p s)).lau :=
    columnAt_joined _ _ (by rw [enterPhase_lau]; exact h)
  unfold changePhase
  split
  · exact h
  · dsimp only
    split
    · exact tripAll_joined _ h1
    · exact h1

/-! ### Sessions -/

theorem tellAccepted_joined (d : Direction) (h : Joined l s.lau) :
    Joined l (tellAccepted d s).lau := by
  unfold tellAccepted
  split
  · exact changePhase_joined _ h
  · exact h

theorem applyPending_joined (h : Joined l s.lau) : Joined l (applyPending s).lau := by
  unfold applyPending
  split
  · split
    · exact tellAccepted_joined _ h
    · exact h
  · exact h

theorem acceptSession_joined (k : Token) (d : Direction) (q : Preset) (h : Joined l s.lau) :
    Joined l (acceptSession k d q s).lau :=
  tellAccepted_joined (s := State.withSu _ _) _ h

theorem tellEnded_joined (c : StopCause) (st : SessionState) (h : Joined l s.lau) :
    Joined l (tellEnded c st s).lau := by
  unfold tellEnded
  apply changePhase_joined
  split <;> exact h

theorem endSession_joined (c : StopCause) (h : Joined l s.lau) :
    Joined l (endSession c s).lau := by
  unfold endSession
  split
  · exact h
  · apply tellEnded_joined
    split
    · exact composeEndOf_joined (s := State.withSu _ _) _ h
    · exact h

theorem takeStartOrKeep_joined (k : Token) (d : Direction) (q : Preset) (h : Joined l s.lau) :
    Joined l (takeStartOrKeep k d q s).lau := by
  rcases takeStartOrKeep_cases k d q s with
    ⟨-, e⟩ | ⟨ss, -, -, -, e⟩ | ⟨ss, -, -, -, e⟩ | ⟨ss, -, -, e⟩ <;> rw [e]
  · exact acceptSession_joined _ _ _ h
  · exact h
  · exact acceptSession_joined _ _ _ (endSession_joined _ h)
  · exact endSession_joined _ h

theorem takeEnd_joined (n : NodeNum) (k : Token) (h : Joined l s.lau) :
    Joined l (takeEnd n k s).lau := by
  rcases takeEnd_cases n k s with ⟨-, e⟩ | ⟨-, e⟩ <;> rw [e]
  · exact h
  · exact endSession_joined _ h

theorem takeMotion_joined (n : NodeNum) (m : Motion) (h : Joined l s.lau) :
    Joined l (takeMotion n m s).lau := by
  unfold takeMotion
  split
  · exact h
  · split
    · cases m with
      | start d q p => exact takeStartOrKeep_joined _ _ _ h
      | keep d q p => exact takeStartOrKeep_joined _ _ _ h
      | finish k => exact takeEnd_joined _ _ h
    · exact h

/-! ### HALT, CLEAR and REPORT frames -/

theorem takeHalt_joined (n : NodeNum) (b : HaltBody) (h : Joined l s.lau) :
    Joined l (takeHalt n b s).lau := by
  unfold takeHalt
  split
  · exact h
  · split
    · exact remoteHalt_joined _ _ _ _ h
    · exact h

theorem reportCleared_joined (h : Joined l s.lau) : Joined l (reportCleared s).lau :=
  applyPending_joined (changePhase_joined _ h)

theorem takeClear_joined (e : Byte) (h : Joined l s.lau) : Joined l (takeClear e s).lau := by
  rcases takeClear_cases e s with ⟨-, eq⟩ | ⟨p, -, hc⟩
  · rw [eq]; exact h
  · have h1 : Joined l (clearSteps p e s).lau := by rw [clearSteps_lau]; exact h
    rcases hc with ⟨c, -, eq⟩ | ⟨-, -, eq⟩ | ⟨-, -, eq⟩ <;> rw [eq]
    · exact localHalt_joined _ _ h1
    · exact reportCleared_joined h1
    · exact h1

theorem takeClearFrame_joined (n : NodeNum) (e : Byte) (h : Joined l s.lau) :
    Joined l (takeClearFrame n e s).lau := by
  unfold takeClearFrame
  split
  · exact h
  · split
    · exact takeClear_joined _ h
    · exact h

theorem judgeReport_joined (n : NodeNum) (r : Reported) (h : Joined l s.lau) :
    Joined l (judgeReport n r s).lau := by
  unfold judgeReport
  extract_lets _ s1
  have h1 : Joined l s1.lau := by
    simp only [s1]; split <;> exact h
  split
  · split
    · exact remoteHalt_joined _ _ _ _ h1
    · exact h1
  · split
    · split
      · exact takeClear_joined _ h1
      · exact h1
    · exact h1

theorem takeReport_joined (n : NodeNum) (e : Byte) (r : ReportBody) (h : Joined l s.lau) :
    Joined l (takeReport n e r s).lau := by
  unfold takeReport
  extract_lets old new s1
  have h1 : Joined l s1.lau := by
    simp only [s1, latchWhen_lau]; exact h
  split
  · exact judgeReport_joined _ _ h1
  · exact h1

theorem handOn_joined (f : Frame) (h : Joined l s.lau) : Joined l (handOn f s).lau := by
  unfold handOn
  split
  · exact takeReport_joined _ _ _ h
  · exact takeMotion_joined _ _ h
  · exact takeHalt_joined _ _ h
  · exact takeClearFrame_joined _ _ h

/-! ### Start-up and load -/

theorem decideStartup_joined (h : Joined l s.lau) : Joined l (decideStartup s).lau := by
  unfold decideStartup
  split
  · exact h
  · split
    · exact h
    · dsimp only
      split
      · exact trip_joined _ _ _ h
      · split
        · exact applyPending_joined (changePhase_joined (s := State.withPhc _ _) _ h)
        · exact h

theorem noteValidRead_joined (h : Joined l s.lau) : Joined l (noteValidRead s).lau := by
  unfold noteValidRead
  split
  · exact h
  · exact decideStartup_joined (s := State.withPhc _ _) h

theorem noteVerdict_joined (b : Bool) (h : Joined l s.lau) : Joined l (noteVerdict b s).lau := by
  unfold noteVerdict
  split
  · exact h
  · exact decideStartup_joined (s := State.withPhc _ _) h

theorem countStartSample_joined (h : Joined l s.lau) : Joined l (countStartSample s).lau := by
  unfold countStartSample
  split
  · dsimp only
    split
    · exact noteVerdict_joined (s := State.withCi _ _) _ h
    · exact h
  · exact h

theorem contactMade_joined (h : Joined l s.lau) : Joined l (contactMade s).lau := by
  unfold contactMade
  split
  · exact changePhase_joined (s := State.withCi _ _) _ h
  · exact h

theorem unloaded_joined (p : Plan) (h : Joined l s.lau) : Joined l (unloaded p s).lau := by
  unfold unloaded
  split
  · exact changePhase_joined _ h
  · exact h

theorem loadArrives_joined (p : Plan) (w : Word) (h : Joined l s.lau) :
    Joined l (loadArrives p w s).lau :=
  tripAll_joined _
    (unloaded_joined p (contactMade_joined (countStartSample_joined (s := State.withCi _ _) h)))

/-! ### The computation -/

theorem publish_joined (p : Plan) (v : LineView) (h : Joined l s.lau) :
    Joined l (publish p v s).lau :=
  compose_joined (s := State.withPu _ _) _ h

theorem checkSample_joined (p : Plan) (c : ControlSample) (h : Joined l s.lau) :
    Joined l (checkSample p c s).lau := by
  unfold checkSample
  extract_lets _ drift peer _ s1 s2 s3
  have h2 : Joined l s2.lau := by
    simp only [s2]; split
    · exact trip_joined _ _ _ h
    · exact h
  have h3 : Joined l s3.lau := by
    simp only [s3]; split
    · exact trip_joined _ _ _ h2
    · exact h2
  split
  · exact trip_joined _ _ _ h3
  · exact h3

theorem tellStarted_joined (p : Plan) (d : Direction) (h : Joined l s.lau) :
    Joined l (tellStarted p d s).lau := by
  unfold tellStarted
  split
  · exact changePhase_joined _ h
  · exact changePhase_joined _ h
  · split
    · exact changePhase_joined _ h
    · exact h
  · exact h

theorem startCondition_joined (p : Plan) (h : Joined l s.lau) :
    Joined l (startCondition p s).lau := by
  rcases startCondition_cases p s with e | ⟨ss, -, -, -, -, -, e⟩ <;> rw [e]
  · exact h
  · exact tellStarted_joined (s := State.withSu _ _) _ _ h

theorem retractCheck_joined (p : Plan) (h : Joined l s.lau) : Joined l (retractCheck p s).lau := by
  unfold retractCheck
  split
  · exact changePhase_joined (s := setLastStop _ _) _ h
  · exact h

theorem paceStages_joined (p : Plan) (h : Joined l s.lau) : Joined l (paceStages p s).lau := by
  unfold paceStages
  extract_lets v s5 base s8
  have h5 : Joined l s5.lau := by simp only [s5, judgePace_lau]; exact h
  have h8 : Joined l s8.lau := by
    simp only [s8]; split
    · exact changePhase_joined (s := setLastStop _ _) _ h5
    · exact h5
  exact publish_joined _ _ (by rw [giveDemand_lau]; exact h8)

theorem computation_joined (p : Plan) (h : Joined l s.lau) : Joined l (computation p s).lau := by
  have h1 : Joined l (paceStages p (retractCheck p s)).lau :=
    paceStages_joined p (retractCheck_joined p h)
  unfold computation
  dsimp only
  split
  · exact startCondition_joined p (checkSample_joined p _ h1)
  · exact h1

/-! ### The control period and the position read -/

theorem agePeers_joined (p : Plan) (h : Joined l s.lau) : Joined l (agePeers p s).lau := by
  unfold agePeers
  exact foldl_joined (fun j _ ht => trip_joined .peerSilent none (some j) ht) _ h

theorem advanceKeep_joined (p : Plan) (h : Joined l s.lau) : Joined l (advanceKeep p s).lau := by
  unfold advanceKeep
  split
  · exact h
  · dsimp only
    split
    · exact endSession_joined (s := State.withSu _ _) _ h
    · exact h

theorem composeKeep_joined (h : Joined l s.lau) : Joined l (composeKeep s).lau := by
  unfold composeKeep
  split
  · exact h
  · split
    · exact composeMotion_joined _ h
    · exact h

theorem controlExpiry_joined (p : Plan) (h : Joined l s.lau) :
    Joined l (controlExpiry p s).lau :=
  composeKeep_joined
    (advanceKeep_joined (s := State.withCi _ _) p (agePeers_joined (s := State.withPu _ _) p h))

theorem readHandedOn_joined (p : Plan) (b : Bool) (w : Word) (h : Joined l s.lau) :
    Joined l (readHandedOn p b w s).lau := by
  apply computation_joined
  split
  · exact noteValidRead_joined (s := State.withCi _ _) h
  · split
    · exact trip_joined _ _ _ h
    · exact h

theorem readKept_lau (b : Bool) (w : Word) (s : State) : (readKept b w s).lau = s.lau := by
  unfold readKept
  split <;> rfl

theorem readComplete_joined (b : Bool) (w : Word) (h : Joined l s.lau) :
    Joined l (readComplete b w s).lau := by
  unfold readComplete
  split
  · exact h
  · exact readHandedOn_joined _ _ _ h
  · rw [readKept_lau]; exact h
  · rw [readKept_lau]; exact h

/-! ### Lines and pendant -/

theorem driveStatusMoves_joined (d : DriveLine) (b : Bool) (h : Joined l s.lau) :
    Joined l (driveStatusMoves d b s).lau := by
  unfold driveStatusMoves
  extract_lets _ s1 ready _ s2
  have h2 : Joined l s2.lau := by simp only [s2]; split <;> exact h
  split
  · exact trip_joined _ _ _ h2
  · exact h2

theorem takePress_joined (d : Direction) (q : Preset) (h : Joined l s.lau) :
    Joined l (takePress d q s).lau := by
  unfold takePress
  split
  · exact h
  · exact composeMotion_joined (s := State.withSu _ _) _ h

theorem takeRelease_joined (h : Joined l s.lau) : Joined l (takeRelease s).lau := by
  unfold takeRelease
  split
  · exact composeMotion_joined (s := State.withSu _ _) _ h
  · exact composeMotion_joined (s := State.withSu _ _) _ h
  · exact h
  · exact h

theorem handDirection_joined (old new : Option Direction) (h : Joined l s.lau) :
    Joined l (handDirection old new s).lau := by
  unfold handDirection
  split
  · exact h
  · extract_lets s1
    have h1 : Joined l s1.lau := by
      simp only [s1]; split
      · exact takeRelease_joined h
      · exact h
    split
    · exact takePress_joined _ _ h1
    · exact h1

theorem takeStop_joined (h : Joined l s.lau) : Joined l (takeStop s).lau := by
  unfold takeStop
  split
  · exact h
  · split
    · exact composeMotion_joined (s := State.withSu _ _) _ h
    · exact composeMotion_joined (s := State.withSu _ _) _ h
    · exact h
    · exact h
    · exact h

/-! ### Adoption -/

theorem adoptPlan_joined (h : Joined l s.lau) : Joined l (adoptPlan s).lau := by
  unfold adoptPlan
  dsimp only
  apply changePhase_joined
  simpa [handAdoption] using h

end Sys2Proof.Machine
end

section
/-! PROOFS. The law of the lanes, the transmitter and the deferral, lane by lane, and that every operation
of the Line Access Unit keeps it (R9 to R11, R13 to R16). -/

namespace Sys2Proof.Machine

open Sys2Proof Sys2Proof.Safety

/-! ### The law of a lane -/

/-- How many frames of a kind belong in a lane: one in the lane of the kind, none in the other (R9, R11). -/
def room (urgentLane : Bool) : FrameKind → Nat
  | .halt | .clear => if urgentLane then 1 else 0
  | .report | .motion => if urgentLane then 0 else 1

/-- A lane, urgent or normal, holds at most what belongs in it, and no frame with sixteen attempts (R11,
R15). -/
structure LaneHolds (urgentLane : Bool) (lane : List Queued) : Prop where
  kinds : ∀ k, ofKind k lane ≤ room urgentLane k
  attempts : ∀ q ∈ lane, q.attempts < 16

/-- The law of R11 is that of its two lanes and of the frame in the transmitter. -/
theorem lanesLaw_iff (l : LineAccess) :
    LanesLaw l ↔ LaneHolds true l.urgent ∧ LaneHolds false l.normal
      ∧ ∀ q, l.transmitter = some q → q.attempts < 16 := by
  constructor
  · rintro ⟨hh, hc, hr, hm, nr, nm, nh, nc, ha⟩
    refine ⟨⟨?_, fun q hq => ha q (by simp [hq])⟩, ⟨?_, fun q hq => ha q (by simp [hq])⟩,
      fun q hq => ha q (by simp [hq])⟩
    · rintro (_ | _ | _ | _) <;> simp [room] <;> assumption
    · rintro (_ | _ | _ | _) <;> simp [room] <;> assumption
  · rintro ⟨⟨ku, au⟩, ⟨kn, an⟩, ht⟩
    refine ⟨ku .halt, ku .clear, Nat.le_zero.1 (ku .report), Nat.le_zero.1 (ku .motion),
      kn .report, kn .motion, Nat.le_zero.1 (kn .halt), Nat.le_zero.1 (kn .clear), ?_⟩
    intro q hq
    rcases List.mem_append.1 hq with hq | hq
    · exact (List.mem_append.1 hq).elim (au q) (an q)
    · exact ht q (Option.mem_toList.1 hq)

/-- There is room for a frame in the lane that it goes by (R9). -/
theorem room_own_lane (f : Frame) : room (isUrgent f) (frameKind f) = 1 := by
  unfold isUrgent
  cases frameKind f <;> rfl

/-! ### Counting the frames of a kind -/

/-- The count of one frame. -/
def oneIf (f : Frame) (k : FrameKind) : Nat := if frameKind f = k then 1 else 0

theorem oneIf_le_room (f : Frame) (k : FrameKind) : oneIf f k ≤ room (isUrgent f) k := by
  unfold oneIf
  split
  · next h => exact h ▸ (room_own_lane f).ge
  · exact Nat.zero_le _

theorem ofKind_cons (k : FrameKind) (q : Queued) (lane : List Queued) :
    ofKind k (q :: lane) = oneIf q.frame k + ofKind k lane := by
  by_cases h : frameKind q.frame = k <;> simp [ofKind, oneIf, h, Nat.add_comm]

theorem ofKind_snoc (k : FrameKind) (lane : List Queued) (q : Queued) :
    ofKind k (lane ++ [q]) = ofKind k lane + oneIf q.frame k := by
  by_cases h : frameKind q.frame = k <;> simp [ofKind, oneIf, h]

theorem ofKind_eq_zero {k : FrameKind} {lane : List Queued}
    (h : ∀ q ∈ lane, frameKind q.frame ≠ k) : ofKind k lane = 0 := by
  simpa [ofKind] using h

/-- Frames replaced by frames of their kind are as many of each kind. -/
theorem ofKind_map {g : Queued → Queued} (hg : ∀ q, frameKind (g q).frame = frameKind q.frame)
    (k : FrameKind) (lane : List Queued) : ofKind k (lane.map g) = ofKind k lane := by
  simp [ofKind, List.filter_map, Function.comp_def, hg]

theorem ofKind_filter_le (k : FrameKind) (p : Queued → Bool) (lane : List Queued) :
    ofKind k (lane.filter p) ≤ ofKind k lane :=
  (List.filter_sublist.filter _).length_le

/-- A joining frame brings no lane more than one frame of its kind (R9, R10). -/
theorem ofKind_joinLane_le (k : FrameKind) (lane : List Queued) (f : Frame) :
    ofKind k (joinLane lane f) ≤ max (ofKind k lane) (oneIf f k) := by
  rcases joinLane_cases lane f with ⟨hnone, e⟩ | ⟨old, -, -, e⟩ | ⟨old, -, -, e⟩ <;> rw [e]
  · rw [ofKind_snoc]
    dsimp only
    by_cases hk : frameKind f = k
    · have h0 : ofKind k lane = 0 := ofKind_eq_zero (by simpa [hk] using hnone)
      omega
    · simp [oneIf, hk]
  · exact Nat.le_max_left _ _
  · rw [ofKind_map]
    · exact Nat.le_max_left _ _
    · intro q
      by_cases hq : frameKind q.frame = frameKind f <;> simp [hq]

/-- A frame in a lane that another has joined is new, or has the count of one that was there (R10). -/
theorem mem_joinLane {lane : List Queued} {f : Frame} {q : Queued} (h : q ∈ joinLane lane f) :
    q.attempts = 0 ∨ ∃ old ∈ lane, q.attempts = old.attempts := by
  rcases joinLane_cases lane f with ⟨-, e⟩ | ⟨old, -, -, e⟩ | ⟨old, -, -, e⟩ <;> rw [e] at h
  · rcases List.mem_append.1 h with h | h
    · exact .inr ⟨q, h, rfl⟩
    · exact .inl (by rw [List.mem_singleton.1 h])
  · exact .inr ⟨q, h, rfl⟩
  · obtain ⟨old, hold, rfl⟩ := List.mem_map.1 h
    exact .inr ⟨old, hold, by split <;> rfl⟩

/-- What a collided frame's return to its lane does (R16): a frame of its kind with its attempt count
stands at the head, and those behind it are the frames of other kinds that the lane held. -/
theorem returnToLane_cases (lane : List Queued) (q : Queued) :
    ∃ back rest, returnToLane lane q = back :: rest ∧ frameKind back.frame = frameKind q.frame
      ∧ back.attempts = q.attempts
      ∧ rest = lane.filter (fun n => frameKind n.frame != frameKind q.frame) := by
  unfold returnToLane
  cases h : lane.find? (fun n => frameKind n.frame == frameKind q.frame) with
  | none =>
    refine ⟨q, lane, rfl, rfl, rfl, (List.filter_eq_self.2 ?_).symm⟩
    simpa using h
  | some n =>
    have hn : frameKind n.frame = frameKind q.frame := by simpa using List.find?_some h
    refine ⟨_, _, rfl, ?_, ?_, rfl⟩ <;> split <;> simp [hn]

/-! ### Lanes that keep the law -/

theorem LaneHolds.nil (u : Bool) : LaneHolds u [] :=
  ⟨fun _ => Nat.zero_le _, fun _ h => absurd h List.not_mem_nil⟩

theorem LaneHolds.tail {u : Bool} {q : Queued} {rest : List Queued} (h : LaneHolds u (q :: rest)) :
    LaneHolds u rest :=
  ⟨fun k => le_trans (by rw [ofKind_cons]; omega) (h.kinds k),
    fun n hn => h.attempts n (List.mem_cons_of_mem q hn)⟩

theorem LaneHolds.joinLane {u : Bool} {f : Frame} {lane : List Queued} (h : LaneHolds u lane)
    (hf : isUrgent f = u) : LaneHolds u (joinLane lane f) where
  kinds k := (ofKind_joinLane_le k lane f).trans (max_le (h.kinds k) (hf ▸ oneIf_le_room f k))
  attempts q hq := by
    rcases mem_joinLane hq with h0 | ⟨old, hold, e⟩
    · omega
    · exact e ▸ h.attempts old hold

theorem LaneHolds.returnToLane {u : Bool} {q : Queued} {lane : List Queued} (h : LaneHolds u lane)
    (hf : isUrgent q.frame = u) (hq : q.attempts < 16) : LaneHolds u (returnToLane lane q) := by
  obtain ⟨back, rest, e, hkind, hcount, rfl⟩ := returnToLane_cases lane q
  rw [e]
  constructor
  · intro k
    rw [ofKind_cons, oneIf, hkind]
    by_cases hk : frameKind q.frame = k
    · subst hk
      rw [ofKind_eq_zero (by simp), ← hf, room_own_lane, if_pos rfl]
    · rw [if_neg hk, Nat.zero_add]
      exact (ofKind_filter_le k _ lane).trans (h.kinds k)
  · intro n hn
    rcases List.mem_cons.1 hn with rfl | hn
    · exact hcount ▸ hq
    · exact h.attempts n (List.mem_of_mem_filter hn)

theorem joinLane_ne_nil (lane : List Queued) (f : Frame) : joinLane lane f ≠ [] := by
  rcases joinLane_cases lane f with ⟨-, e⟩ | ⟨old, hold, -, e⟩ | ⟨old, hold, -, e⟩ <;> rw [e]
  · simp
  · exact List.ne_nil_of_mem (List.mem_of_find?_eq_some hold)
  · simpa using List.ne_nil_of_mem (List.mem_of_find?_eq_some hold)

/-! ### The law of the unit -/

/-- The law of the lanes, the transmitter, the line and the deferral (R11, R13, R14). -/
structure UnitLaw (l : LineAccess) : Prop where
  urgent : LaneHolds true l.urgent
  normal : LaneHolds false l.normal
  sent : ∀ q, l.transmitter = some q → q.attempts < 16
  unsynced_busy : l.synced = false → l.lineBusy = true
  sending : l.transmitter.isSome = true → l.lineBusy = true ∧ l.synced = true
  busy : l.lineBusy = true → l.deferral = none
  waiting : l.lineBusy = false → (l.deferral.isSome ↔ (headFrame l).isSome)

theorem unitLaw_iff (s : State) : UnitLaw s.lau ↔ LanesLaw s.lau ∧ LineLaw s := by
  rw [lanesLaw_iff]
  exact ⟨fun ⟨u, n, t, a, b, c, d⟩ => ⟨⟨u, n, t⟩, a, b, c, d⟩,
    fun ⟨⟨u, n, t⟩, a, b, c, d⟩ => ⟨u, n, t, a, b, c, d⟩⟩

/-- On an idle line nothing is sent. -/
theorem UnitLaw.transmitter_of_idle {l : LineAccess} (h : UnitLaw l) (hb : l.lineBusy = false) :
    l.transmitter = none := by
  cases ht : l.transmitter with
  | none => rfl
  | some q => simpa [hb] using h.sending (by simp [ht])

/-- Before the first idle event nothing is sent (R1). -/
theorem UnitLaw.transmitter_of_unsynced {l : LineAccess} (h : UnitLaw l) (hs : l.synced = false) :
    l.transmitter = none := by
  cases ht : l.transmitter with
  | none => rfl
  | some q => simpa [hs] using h.sending (by simp [ht])

/-- On a busy line the lanes wait without a deferral (R13). -/
theorem UnitLaw.of_busy {l : LineAccess} (hu : LaneHolds true l.urgent)
    (hn : LaneHolds false l.normal) (hsent : ∀ q, l.transmitter = some q → q.attempts < 16)
    (hsync : l.transmitter.isSome = true → l.synced = true) (hb : l.lineBusy = true)
    (hd : l.deferral = none) : UnitLaw l where
  urgent := hu
  normal := hn
  sent := hsent
  unsynced_busy _ := hb
  sending ht := ⟨hb, hsync ht⟩
  busy _ := hd
  waiting hidle := absurd (hb.symm.trans hidle) (by simp)

/-! ### Joining frames -/

theorem headFrame_isSome_iff (l : LineAccess) :
    (headFrame l).isSome = true ↔ l.urgent ≠ [] ∨ l.normal ≠ [] := by
  unfold headFrame
  cases l.urgent <;> cases l.normal <;> simp

/-- With a head frame on an idle line the deferral runs once a frame has joined (R13). -/
theorem deferAfterJoin_runs (own : NodeNum) (a : LineAccess) {b : LineAccess}
    (hb : b.lineBusy = false) (ht : b.transmitter = none) (hh : (headFrame b).isSome = true) :
    (deferAfterJoin own a b).deferral.isSome = true := by
  unfold deferAfterJoin startDeferral
  rw [if_neg (by simp [hb, ht])]
  split
  · simpa using hh
  · next d hd =>
    split
    · simpa using hh
    · simp [hd]

theorem lauJoin_deferral_runs (own : NodeNum) {l : LineAccess} (f : Frame)
    (hb : l.lineBusy = false) (ht : l.transmitter = none) :
    (lauJoin own l f).deferral.isSome = true := by
  refine deferAfterJoin_runs own l ?_ ?_ ((headFrame_isSome_iff _).2 ?_) <;> split
  · exact hb
  · exact hb
  · exact ht
  · exact ht
  · exact .inl (joinLane_ne_nil _ _)
  · exact .inr (joinLane_ne_nil _ _)

theorem lauJoin_head (own : NodeNum) (l : LineAccess) (f : Frame) :
    (headFrame (lauJoin own l f)).isSome = true := by
  obtain ⟨d, -, e⟩ := lauJoin_cases own l f
  rw [headFrame_isSome_iff, e]
  split
  · exact .inl (joinLane_ne_nil _ _)
  · exact .inr (joinLane_ne_nil _ _)

/-- A joining frame leaves both lanes within their law (R9 to R11). -/
theorem lauJoin_lanes (own : NodeNum) {l : LineAccess} (f : Frame) (hu : LaneHolds true l.urgent)
    (hn : LaneHolds false l.normal) :
    LaneHolds true (lauJoin own l f).urgent ∧ LaneHolds false (lauJoin own l f).normal := by
  obtain ⟨d, -, e⟩ := lauJoin_cases own l f
  rw [e]
  split
  · next hf => exact ⟨hu.joinLane hf, hn⟩
  · next hf => exact ⟨hu, hn.joinLane (eq_false_of_ne_true hf)⟩

theorem UnitLaw.lauJoin (own : NodeNum) {l : LineAccess} (f : Frame) (h : UnitLaw l) :
    UnitLaw (lauJoin own l f) := by
  obtain ⟨hu, hn⟩ := lauJoin_lanes own f h.urgent h.normal
  obtain ⟨hs, hb, -, -, ht⟩ := lauJoin_keeps_receiver own l f
  refine ⟨hu, hn, ht ▸ h.sent, hs ▸ hb ▸ h.unsynced_busy, hs ▸ hb ▸ ht ▸ h.sending, ?_, ?_⟩
  · intro hbusy
    obtain ⟨d, hd, e⟩ := lauJoin_cases own l f
    have hbusy' : l.lineBusy = true := hb ▸ hbusy
    have hnone : d = none := (hd (.inl hbusy')).trans (h.busy hbusy')
    rw [e]
    split <;> exact hnone
  · intro hidle
    have hidle' : l.lineBusy = false := hb ▸ hidle
    have hruns := lauJoin_deferral_runs own f hidle' (h.transmitter_of_idle hidle')
    exact iff_of_true hruns (lauJoin_head own l f)

/-- Composing keeps the law. -/
theorem Joined.unitLaw {l m : LineAccess} (hj : Joined l m) (h : UnitLaw l) : UnitLaw m := by
  induction hj with
  | refl => exact h
  | join own f _ ih => exact ih.lauJoin own f

/-! ### The line -/

/-- The idle event with nothing in the transmitter starts the deferral of a waiting frame (R13). -/
theorem UnitLaw.lineIdle {s : State} (h : UnitLaw s.lau) (ht : s.lau.transmitter = none)
    (n : NodeNum) : UnitLaw (lineIdle n s).lau where
  urgent := h.urgent
  normal := h.normal
  sent := h.sent
  unsynced_busy hs := absurd hs (by simp [Machine.lineIdle, lauIdle, startDeferral])
  sending hs := absurd hs (by simp [Machine.lineIdle, lauIdle, startDeferral, ht])
  busy hb := absurd hb (by simp [Machine.lineIdle, lauIdle, startDeferral])
  waiting _ := by simp [Machine.lineIdle, lauIdle, startDeferral, headFrame]

theorem UnitLaw.withRun {l : LineAccess} (h : UnitLaw l) (run : List BusByte) :
    UnitLaw { l with run := run } :=
  ⟨h.urgent, h.normal, h.sent, h.unsynced_busy, h.sending, h.busy, h.waiting⟩

/-- A start bit from another node abandons the count (R13). -/
theorem UnitLaw.becomesBusy {l : LineAccess} (h : UnitLaw l) (hb : l.lineBusy = false) :
    UnitLaw { l with lineBusy := true, deferral := none, run := [] } :=
  have ht := h.transmitter_of_idle hb
  .of_busy h.urgent h.normal h.sent (by simp [ht]) rfl rfl

/-- An idle slot counts a running deferral, and none starts or stops (R13). -/
theorem UnitLaw.countSlot {l : LineAccess} (h : UnitLaw l) (hb : l.lineBusy = false) :
    UnitLaw { l with deferral := l.deferral.map countSlot } where
  urgent := h.urgent
  normal := h.normal
  sent := h.sent
  unsynced_busy := h.unsynced_busy
  sending := h.sending
  busy hbusy := absurd (hbusy.symm.trans hb) (by simp)
  waiting _ := by simpa [headFrame] using h.waiting hb

/-- The lanes and the transmitter emptied, as at the entry into UNPLANNED (R18). -/
theorem UnitLaw.emptied {l : LineAccess} (h : UnitLaw l) :
    UnitLaw { l with urgent := [], normal := [], transmitter := none, deferral := none } where
  urgent := .nil true
  normal := .nil false
  sent _ hq := absurd hq (by simp)
  unsynced_busy := h.unsynced_busy
  sending ht := absurd ht (by simp)
  busy _ := rfl
  waiting _ := by simp [headFrame]

theorem unitLaw_reset : UnitLaw LineAccess.reset :=
  .of_busy (.nil true) (.nil false) (by simp [LineAccess.reset]) (by simp [LineAccess.reset]) rfl rfl

/-! ### The transmitter -/

/-- The transmitter takes the head frame of an idle line, which is then busy (R13, R14). -/
theorem UnitLaw.takeHead {l : LineAccess} (h : UnitLaw l) (hb : l.lineBusy = false) :
    UnitLaw (lauTakeHead l) := by
  have hsync : l.synced = true := by
    cases hs : l.synced with
    | true => rfl
    | false => simpa [hb] using h.unsynced_busy hs
  have hu := h.urgent
  have hn := h.normal
  unfold lauTakeHead
  split
  · next q rest e =>
    rw [e] at hu
    exact .of_busy hu.tail hn (by simpa using hu.attempts q List.mem_cons_self) (fun _ => hsync)
      rfl rfl
  · split
    · next q rest e =>
      rw [e] at hn
      exact .of_busy hu hn.tail (by simpa using hn.attempts q List.mem_cons_self) (fun _ => hsync)
        rfl rfl
    · exact h

/-- The frame on the line leaves the transmitter; the line stays busy until the idle event (R6, R17). -/
theorem UnitLaw.dropped {l : LineAccess} (h : UnitLaw l) (ht : l.transmitter.isSome = true) :
    UnitLaw { l with transmitter := none } :=
  have hb := (h.sending ht).1
  .of_busy h.urgent h.normal (by simp) (by simp) hb (h.busy hb)

/-- A collided frame comes back to its lane (R16). -/
theorem UnitLaw.lauReturn {l : LineAccess} (h : UnitLaw l) (ht : l.transmitter.isSome = true)
    {q : Queued} (hq : q.attempts < 16) : UnitLaw (lauReturn l q) := by
  have hb := (h.sending ht).1
  unfold Machine.lauReturn
  split
  · next hf =>
    exact .of_busy (h.urgent.returnToLane hf hq) h.normal (by simp) (by simp) hb (h.busy hb)
  · next hf =>
    exact .of_busy h.urgent (h.normal.returnToLane (eq_false_of_ne_true hf) hq) (by simp) (by simp) hb
      (h.busy hb)

theorem lauReturn_transmitter (l : LineAccess) (q : Queued) :
    (lauReturn l q).transmitter = none := by
  unfold lauReturn
  split <;> rfl

/-- After a collision the law holds and the transmitter is empty (R15 to R17). -/
theorem collided_unitLaw {s : State} {q : Queued} (h : UnitLaw s.lau)
    (ht : s.lau.transmitter = some q) :
    UnitLaw (collided q s).lau ∧ (collided q s).lau.transmitter = none := by
  have ht' : s.lau.transmitter.isSome = true := by simp [ht]
  unfold collided
  split
  · next hq => exact ⟨h.lauReturn ht' hq, lauReturn_transmitter _ _⟩
  · have hj := trip_joined (s := s.withLau { s.lau with transmitter := none })
      .mediumFault none none .refl
    exact ⟨hj.unitLaw (h.dropped ht'), hj.receiver.transmitter⟩

/-! ### The end of a run -/

theorem goodFrame_unitLaw {s : State} (f : Frame) (h : UnitLaw s.lau)
    (ht : s.lau.transmitter = none) : UnitLaw (goodFrame f s).lau := by
  have h1 := h.lineIdle ht f.sender
  unfold goodFrame
  dsimp only
  split
  · exact h1
  · split
    · exact (trip_joined _ _ _ .refl).unitLaw h1
    · exact (handOn_joined _ .refl).unitLaw h1

theorem judgedRun_unitLaw {s : State} (v : Option Frame) (h : UnitLaw s.lau)
    (ht : s.lau.transmitter = none) : UnitLaw (judgedRun v s).lau := by
  cases v with
  | none => exact h.lineIdle ht 63
  | some f => exact goodFrame_unitLaw f h ht

theorem transmissionDone_unitLaw {s : State} {q : Queued} (h : UnitLaw s.lau)
    (ht : s.lau.transmitter = some q) : UnitLaw (transmissionDone q s).lau := by
  have h0 := h.dropped (by simp [ht])
  have h1 := UnitLaw.lineIdle (s := s.withLau { s.lau with transmitter := none }) h0 rfl q.frame.sender
  unfold transmissionDone
  dsimp only
  split
  · exact h1
  · exact (takeMotion_joined _ _ .refl).unitLaw h1
  · exact h1
  · exact (takeClearFrame_joined _ _ .refl).unitLaw h1

theorem endOfRun_unitLaw {s : State} (v : Option Frame) (isRun : Frame → Bool) (h : UnitLaw s.lau) :
    UnitLaw (endOfRun v isRun s).lau := by
  unfold endOfRun
  split
  · next q ht =>
    split
    · exact transmissionDone_unitLaw h ht
    · obtain ⟨h1, ht1⟩ := collided_unitLaw h ht
      exact judgedRun_unitLaw v h1 ht1
  · next ht => exact judgedRun_unitLaw v h ht

theorem frameEnds_unitLaw {s : State} (f : Frame) (h : UnitLaw s.lau) :
    UnitLaw (frameEnds f s).lau := by
  cases hs : s.lau.synced with
  | true => rw [frameEnds_synced f hs]; exact endOfRun_unitLaw _ _ h
  | false => rw [frameEnds_unsynced f hs]; exact h.lineIdle (h.transmitter_of_unsynced hs) _

theorem idleEvent_unitLaw {s : State} (rest : List BusByte) (h : UnitLaw s.lau) :
    UnitLaw (idleEvent rest s).lau := by
  unfold idleEvent
  dsimp only
  split
  · next hs => exact h.lineIdle (h.transmitter_of_unsynced (by simpa using hs)) _
  · split
    · exact h
    · exact endOfRun_unitLaw _ _ h

theorem collision_unitLaw {s : State} (i : Nat) (b : BusByte) (h : UnitLaw s.lau) :
    UnitLaw (collision i b s).lau := by
  unfold collision
  split
  · exact h
  · next q ht =>
    split
    · exact h
    · split
      · exact h
      · have hc (run : List BusByte) :=
          collided_unitLaw (s := s.withLau { s.lau with run := run }) (h.withRun run) ht
        exact (hc _).1

end Sys2Proof.Machine
end

section
/-! PROOFS. Every step keeps the law of the lanes, the transmitter and the deferral: the commands that do not
reach the receiver compose frames alone, and each of the others keeps the law (R11, R13, R14, R18, R19). -/

namespace Sys2Proof.Machine

open Sys2Proof Sys2Proof.Safety

variable {s : State}

/-! ### Adoption and the service line -/

theorem enterUnplanned_lau (s : State) :
    (enterUnplanned s).lau =
      { s.lau with urgent := [], normal := [], transmitter := none, deferral := none } := by
  simp [enterUnplanned]

theorem refusePlan_unitLaw (sec : PlanSection) (c : PlanCheck) (h : UnitLaw s.lau) :
    UnitLaw (refusePlan sec c s).lau := by
  unfold refusePlan
  dsimp only
  split
  · exact h
  · rw [enterUnplanned_lau]; exact UnitLaw.emptied h

theorem adoption_unitLaw (h : UnitLaw s.lau) : UnitLaw (adoption s).lau := by
  rcases adoption_cases s with ⟨sec, c, -, e⟩ | ⟨-, e⟩ <;> rw [e]
  · exact refusePlan_unitLaw sec c h
  · exact (adoptPlan_joined .refl).unitLaw h

theorem writePlan_lau (a : Nat) (v : Byte) (s : State) : (writePlan a v s).lau = s.lau := by
  rcases writePlan_cases a v s with ⟨-, e⟩ | ⟨-, e⟩ <;> rw [e] <;> rfl

theorem writeAddress_lau (a : Nat) (v : Byte) (s : State) : (writeAddress a v s).lau = s.lau := by
  unfold writeAddress
  split
  · exact writePlan_lau a v s
  · repeat' split
    all_goals rfl

theorem doAdopt_unitLaw (h : UnitLaw s.lau) : UnitLaw (doAdopt s).lau := by
  unfold doAdopt
  split
  · exact adoption_unitLaw h
  · exact h

theorem doStore_lau (s : State) : (doStore s).lau = s.lau := by
  unfold doStore
  split <;> rfl

/-- Only ADOPT and RESTART act on the Line Access Unit (R18, R19, R175). -/
theorem actCommand_lau {c : ServiceCommand} (s : State) (ha : c ≠ .adopt) (hr : c ≠ .restart) :
    (actCommand c s).lau = s.lau := by
  unfold actCommand
  split
  · rfl
  · cases c with
    | peek a => rfl
    | poke a v => exact writeAddress_lau _ _ (withPointer a s)
    | peekOn => rfl
    | pokeOn v => exact writeAddress_lau _ _ (withPointer (s.sp.pointer + 1) s)
    | summary => rfl
    | adopt => exact absurd rfl ha
    | store => exact doStore_lau s
    | restart => exact absurd rfl hr

theorem actCommand_unitLaw (c : ServiceCommand) (h : UnitLaw s.lau) :
    UnitLaw (actCommand c s).lau := by
  by_cases ha : c = .adopt
  · subst ha
    unfold actCommand
    split
    · exact h
    · exact doAdopt_unitLaw h
  · by_cases hr : c = .restart
    · subst hr
      unfold actCommand
      split
      · exact h
      · exact unitLaw_reset
    · rw [actCommand_lau s ha hr]; exact h

/-- A byte that ends no command is echoed; one that ends a command has it act (R173, R175). -/
theorem receiveByte_cases (b : Byte) (s : State) :
    receiveByte b s = s ∨ (∃ ps, receiveByte b s = echoByte b ps s)
      ∨ ∃ c, receiveByte b s = actCommand c (echoByte b [] s) := by
  unfold receiveByte
  split
  · exact .inl rfl
  · repeat' split
    · exact .inr (.inl ⟨_, rfl⟩)
    · exact .inr (.inr ⟨_, rfl⟩)
    · exact .inr (.inl ⟨_, rfl⟩)
    · exact .inr (.inl ⟨_, rfl⟩)
    · exact .inr (.inr ⟨_, rfl⟩)
    · exact .inr (.inl ⟨_, rfl⟩)
    · exact .inr (.inl ⟨_, rfl⟩)

theorem receiveByte_unitLaw (b : Byte) (h : UnitLaw s.lau) : UnitLaw (receiveByte b s).lau := by
  rcases receiveByte_cases b s with e | ⟨ps, e⟩ | ⟨c, e⟩ <;> rw [e]
  · exact h
  · exact h
  · exact actCommand_unitLaw c (s := echoByte b [] s) h

/-- A whole command changes nothing, or acts at the echo of its last byte (R175). -/
theorem wholeCommand_cases (c : ServiceCommand) (s : State) :
    wholeCommand c s = s ∨ ∃ b, wholeCommand c s = actCommand c (echoByte b [] s) := by
  unfold wholeCommand
  split
  · exact .inl rfl
  · split
    · exact .inr ⟨_, rfl⟩
    · exact .inl rfl

theorem wholeCommand_lau {c : ServiceCommand} (s : State) (ha : c ≠ .adopt) (hr : c ≠ .restart) :
    (wholeCommand c s).lau = s.lau := by
  rcases wholeCommand_cases c s with e | ⟨b, e⟩ <;> rw [e]
  exact actCommand_lau _ ha hr

theorem wholeCommand_unitLaw (c : ServiceCommand) (h : UnitLaw s.lau) :
    UnitLaw (wholeCommand c s).lau := by
  rcases wholeCommand_cases c s with e | ⟨b, e⟩ <;> rw [e]
  · exact h
  · exact actCommand_unitLaw c (s := echoByte b [] s) h

/-! ### The commands -/

/-- A command that does not reach the receiver acts on the Line Access Unit by composing frames alone. -/
theorem exec_joined (c : Instr) (s : State) (hc : reachesReceiver c = false) :
    ∃ t, exec c s = .next t ∧ Joined s.lau t.lau := by
  have unchanged {t : State} (e : t.lau = s.lau) : Joined s.lau t.lau := e ▸ .refl
  cases c with
  | controlPeriodExpiry =>
    refine ⟨_, rfl, ?_⟩
    split
    · exact controlExpiry_joined _ .refl
    · exact .refl
    · exact .refl
  | positionReadComplete a w b f => exact ⟨_, rfl, readComplete_joined _ w .refl⟩
  | loadSample n w =>
    refine ⟨_, rfl, ?_⟩
    split
    · split
      · exact loadArrives_joined _ w .refl
      · exact .refl
    · exact .refl
  | loadSilenceExpiry =>
    refine ⟨_, rfl, ?_⟩
    split
    · exact trip_joined _ _ _ .refl
    · exact .refl
  | demandTransferComplete =>
    refine ⟨_, rfl, ?_⟩
    split <;> exact .refl
  | inputsSettled l =>
    refine ⟨_, rfl, ?_⟩
    split
    · exact .refl
    · dsimp only
      split <;> exact .refl
  | switchChange d b =>
    refine ⟨_, rfl, ?_⟩
    split
    · exact .refl
    · split
      · exact .refl
      · exact tripAll_joined _ .refl
  | driveStatusChange d b =>
    refine ⟨_, rfl, ?_⟩
    split
    · exact .refl
    · split
      · exact .refl
      · exact driveStatusMoves_joined _ _ .refl
  | heldDirectionChange u d q =>
    refine ⟨_, rfl, ?_⟩
    dsimp only
    split
    · exact .refl
    · exact handDirection_joined (s := State.withCi _ _) _ _ .refl
  | stopPress b =>
    refine ⟨_, rfl, ?_⟩
    dsimp only
    split
    · exact takeStop_joined (s := State.withCi _ _) .refl
    · exact .refl
  | resetReqChange b => exact ⟨_, rfl, .refl⟩
  | resetRequestHoldExpiry =>
    refine ⟨_, rfl, ?_⟩
    split
    · dsimp only
      split
      · exact compose_joined (s := State.withCi _ _) _ .refl
      · exact .refl
    · exact .refl
  | contactTimeout =>
    refine ⟨_, rfl, ?_⟩
    split
    · exact trip_joined _ _ _ .refl
    · exact .refl
  | loadNoMemory =>
    refine ⟨_, rfl, ?_⟩
    split <;> exact .refl
  | storeComplete bs =>
    refine ⟨_, rfl, ?_⟩
    split <;> exact .refl
  | storeReplySent =>
    refine ⟨_, rfl, ?_⟩
    split
    · split <;> exact .refl
    · exact .refl
  | peek a => exact ⟨_, rfl, unchanged (wholeCommand_lau s (by simp) (by simp))⟩
  | poke a v => exact ⟨_, rfl, unchanged (wholeCommand_lau s (by simp) (by simp))⟩
  | peekOn => exact ⟨_, rfl, unchanged (wholeCommand_lau s (by simp) (by simp))⟩
  | pokeOn v => exact ⟨_, rfl, unchanged (wholeCommand_lau s (by simp) (by simp))⟩
  | summary => exact ⟨_, rfl, unchanged (wholeCommand_lau s (by simp) (by simp))⟩
  | store => exact ⟨_, rfl, unchanged (wholeCommand_lau s (by simp) (by simp))⟩
  | framingError =>
    refine ⟨_, rfl, ?_⟩
    split <;> exact .refl
  | lineBreak n => exact ⟨_, rfl, .refl⟩
  | breakEcho => exact ⟨_, rfl, .refl⟩
  | _ => exact Bool.noConfusion hc

/-- The commands that reach the receiver keep the law: those of the lift bus, and those that can run an
adoption or a reset. -/
theorem exec_receiver_unitLaw (c : Instr) (hc : reachesReceiver c = true) (h : UnitLaw s.lau) :
    ∃ t, exec c s = .next t ∧ UnitLaw t.lau := by
  cases c with
  | reset => exact ⟨_, rfl, unitLaw_reset⟩
  | idleEvent rest => exact ⟨_, rfl, idleEvent_unitLaw rest h⟩
  | lineBecomesBusy =>
    refine ⟨_, rfl, ?_⟩
    split
    · exact h
    · next hb => exact h.becomesBusy (eq_false_of_ne_true hb)
  | deferralRunsOut =>
    refine ⟨_, rfl, ?_⟩
    split
    · next hcond =>
      obtain ⟨⟨⟨-, hidle⟩, -⟩, -⟩ := by simpa using hcond
      exact h.takeHead hidle
    · exact h
  | collision i b => exact ⟨_, rfl, collision_unitLaw i b h⟩
  | transmissionComplete =>
    refine ⟨_, rfl, ?_⟩
    split
    · next ht => exact transmissionDone_unitLaw h ht
    · exact h
  | report n e r => exact ⟨_, rfl, frameEnds_unitLaw _ h⟩
  | startUp n e q p => exact ⟨_, rfl, frameEnds_unitLaw _ h⟩
  | startDown n e q p => exact ⟨_, rfl, frameEnds_unitLaw _ h⟩
  | keepUp n e q p => exact ⟨_, rfl, frameEnds_unitLaw _ h⟩
  | keepDown n e q p => exact ⟨_, rfl, frameEnds_unitLaw _ h⟩
  | endSession n e k => exact ⟨_, rfl, frameEnds_unitLaw _ h⟩
  | halt n e b => exact ⟨_, rfl, frameEnds_unitLaw _ h⟩
  | clear n e => exact ⟨_, rfl, frameEnds_unitLaw _ h⟩
  | loadComplete bs =>
    refine ⟨_, rfl, ?_⟩
    split
    · exact adoption_unitLaw (s := State.withPs _ _) h
    · exact h
  | adopt => exact ⟨_, rfl, wholeCommand_unitLaw _ h⟩
  | restart => exact ⟨_, rfl, wholeCommand_unitLaw _ h⟩
  | unknownCommandCode b => exact ⟨_, rfl, receiveByte_unitLaw b h⟩
  | serviceByteReceived b => exact ⟨_, rfl, receiveByte_unitLaw b h⟩
  | _ => exact Bool.noConfusion hc

/-- Every command keeps the law, whatever its operands. -/
theorem exec_unitLaw (c : Instr) (h : UnitLaw s.lau) :
    ∃ t, exec c s = .next t ∧ UnitLaw t.lau := by
  cases hc : reachesReceiver c with
  | true => exact exec_receiver_unitLaw c hc h
  | false =>
    obtain ⟨t, e, hj⟩ := exec_joined c s hc
    exact ⟨t, e, hj.unitLaw h⟩

theorem idleSlot_unitLaw (h : UnitLaw s.lau) : UnitLaw (idleSlot s).lau := by
  unfold idleSlot
  dsimp only
  split
  · exact h
  · next hb => exact h.countSlot (eq_false_of_ne_true hb)

theorem step_unitLaw (h : UnitLaw s.lau) : ∃ t, step s = .next t ∧ UnitLaw t.lau := by
  unfold step
  split
  · exact ⟨_, rfl, idleSlot_unitLaw h⟩
  · exact exec_unitLaw (s := s.withPending _) _ h

end Sys2Proof.Machine

open Sys2Proof Sys2Proof.Machine Sys2Proof.Safety

/-- Settles O54: composing keeps the law of the unit, the idle event keeps it, and so does every command
that is built on them. -/
theorem stepKeepsLanes : Obligations.StepKeepsLanes := by
  intro s t hlanes hline hstep
  obtain ⟨t', ht', hlaw⟩ := step_unitLaw ((unitLaw_iff s).2 ⟨hlanes, hline⟩)
  obtain rfl : t' = t := Host.Outcome.next.inj (ht'.symm.trans hstep)
  exact (unitLaw_iff t').1 hlaw

end

section
/-! PROOFS. What a local halt leaves (R51, R77, R94, R137 to R139), and frames that no owner takes (R5, R7). -/

namespace Sys2Proof.Machine

open Sys2Proof Sys2Proof.Safety

/-! ### The halt order and the session's end in a halt -/

theorem foldl_setFlag_epoch (cs : List (Cause × Option TravelSide)) (s : State) :
    (cs.foldl (fun t c => setFlag c.1 c.2 t) s).tm.epoch = s.tm.epoch := by
  induction cs generalizing s with
  | nil => rfl
  | cons c cs ih => exact ih _

@[simp] theorem enterPhase_epoch (p : Phase) (s : State) :
    (enterPhase p s).tm.epoch = s.tm.epoch := by
  simp [enterPhase]

@[simp] theorem enterPhase_contactTimer (p : Phase) (s : State) :
    (enterPhase p s).phc.contactTimer = contactTimerAt s.phc.phase p s := by
  simp [enterPhase]

@[simp] theorem haltOrder_ci (s : State) : (haltOrder s).ci = (safeDrive s).ci := by
  unfold haltOrder
  dsimp only
  split
  · rfl
  · simp

@[simp] theorem haltOrder_epoch (s : State) : (haltOrder s).tm.epoch = s.tm.epoch := by
  unfold haltOrder
  dsimp only
  split
  · simp
  · simp [foldl_setFlag_epoch]

/-- The entry into HALTED stops the contact timer (R75, R77). -/
theorem haltOrder_contactTimer {s : State} (h : s.phc.phase ≠ .halted) :
    (haltOrder s).phc.contactTimer = none := by
  unfold haltOrder
  dsimp only
  rw [if_neg (by simpa using h)]
  simp [contactTimerAt, isWaitingContact]

@[simp] theorem endSessionInHalt_su (s : State) :
    (endSessionInHalt s).su =
      { s.su with session := none, press := pressAtHalt s.ci.held s.su.press } := by
  simp [endSessionInHalt]

@[simp] theorem safeDrive_height (s : State) : (safeDrive s).ci.height = s.ci.height := by
  unfold safeDrive sendWord setDrive
  split <;> rfl

@[simp] theorem safeDrive_held (s : State) : (safeDrive s).ci.held = s.ci.held := by
  unfold safeDrive sendWord setDrive
  split <;> rfl

/-- The halt record does not reach the drive. -/
@[simp] theorem safeDrive_withTm_ci (s : State) (b : TripMonitor) :
    (safeDrive (s.withTm b)).ci = (safeDrive s).ci := rfl

theorem demandWord_zero : demandWord 0 = { value := 0, parity := false } := by decide

/-- A safe drive has been sent a zero word (R51). -/
theorem safeDrive_zeroWordSent (s : State) : ZeroWordSent s.ci (safeDrive s).ci := by
  have e : (safeDrive s).ci = sendWord 0 (setDrive false s.ci) := rfl
  rw [e]
  rcases sendWord_cases 0 (setDrive false s.ci) with ⟨ht, e⟩ | ⟨ht, e⟩ <;> rw [e, demandWord_zero]
  · exact ⟨fun _ => ⟨rfl, rfl⟩, fun d hd => absurd (hd.symm.trans ht) (by simp)⟩
  · exact ⟨fun hn => absurd ht (by simp [setDrive, hn]), fun d hd => ⟨hd, rfl⟩⟩

/-- The press that a halt leaves is SPENT as R94 says. -/
theorem pressSpent_of_pressAtHalt {s t : State}
    (h : t.su.press = pressAtHalt s.ci.held s.su.press) : PressSpent s t := by
  refine ⟨?_, ?_, ?_, ?_⟩
  · rintro k d p (e | e) <;> rw [h, e] <;> rfl
  · intro k d p e; rw [h, e]; rfl
  · intro e eh; rw [h, e, eh]; rfl
  · intro d e eh; rw [h, e, eh]; rfl

/-- HALT_ENTERED is latched by the operation that latches it (R180). -/
theorem latchEvent_haltEntered (s : State) : (latchEvent .haltEntered s).sp.latch.getLsbD 1 = true := by
  simp [latchEvent, eventBit, eventIndex]

/-! ### A halt as a whole -/

/-- What a halt with a given record leaves of a node that stood in another phase than HALTED. -/
theorem applyHalt_haltedWith (r : HaltRecord) {s : State} (h : s.phc.phase ≠ .halted) :
    HaltedWith r s (applyHalt r s) := by
  obtain ⟨hrec, hphase, hdrive, hbrake, hdemand, hsession⟩ := applyHalt_spec r s
  have hci : (applyHalt r s).ci = (safeDrive s).ci := by simp [applyHalt]
  have hsu : (applyHalt r s).su =
      { s.su with session := none, press := pressAtHalt s.ci.held s.su.press } := by
    simp [applyHalt]
  refine ⟨hrec, hphase, ?_, hdrive, hbrake, hdemand, ?_, hsession, ?_, ?_,
    latchEvent_haltEntered _, ?_, ?_, ?_, applyHalt_ps r s, applyHalt_pending r s⟩
  · have := haltOrder_contactTimer (s := s.withTm { s.tm with record := some r }) h
    simpa [applyHalt] using this
  · rw [hci]; exact safeDrive_zeroWordSent s
  · exact pressSpent_of_pressAtHalt (by rw [hsu])
  · rw [hsu]
  · rw [hci, safeDrive_height]
  · rw [hci, safeDrive_contactHeight]
  · simp [applyHalt]

/-- A halt is told from the column, the session, the epoch, the plan and the queue alone. -/
theorem haltedWith_of_same {r : HaltRecord} {s s' t : State} (h : HaltedWith r s' t)
    (hci : s'.ci = s.ci) (hsu : s'.su = s.su) (hepoch : s'.tm.epoch = s.tm.epoch)
    (hps : s'.ps = s.ps) (hpending : s'.pending = s.pending) : HaltedWith r s t := by
  unfold HaltedWith PressSpent at *
  rwa [hci, hsu, hepoch, hps, hpending] at h

/-- A local trip of a node that is not halted halts it with its own record (R137 to R139). -/
theorem trip_haltedWith {s : State} (c : Cause) (d : Option TravelSide) (n : Option NodeNum)
    (hplan : s.ps.plan.isSome = true) (h : NotHalted s) :
    HaltedWith (localRecord c n s) s (trip c d n s) := by
  obtain ⟨hrecord, hphase⟩ := h
  rcases trip_cases c d n s with ⟨h0, -⟩ | ⟨-, hh, -⟩ | ⟨-, -, e⟩
  · simp [h0] at hplan
  · simp [isHalted, hrecord] at hh
  · rw [e]
    have hph : (compose (haltFrame c n (setFlag c d s)) (setFlag c d s)).phc.phase ≠ .halted := by
      simpa [setFlag] using hphase
    exact haltedWith_of_same (applyHalt_haltedWith _ hph) (by simp) (by simp) (by simp [setFlag])
      (by simp) (by simp)

/-- A local trip of a halted node sets its flag alone (R140). -/
theorem trip_halted {s : State} (c : Cause) (d : Option TravelSide) (n : Option NodeNum)
    (hplan : s.ps.plan.isSome = true) (h : s.tm.record.isSome = true) :
    trip c d n s = setFlag c d s := by
  rcases trip_cases c d n s with ⟨h0, -⟩ | ⟨-, -, e⟩ | ⟨-, hh, -⟩
  · simp [h0] at hplan
  · exact e
  · simp [isHalted, h] at hh

/-! ### A good frame on the line -/

theorem ownNode_of_plan {s : State} {p : Plan} (h : s.ps.plan = some p) : ownNode s = p.node := by
  simp [ownNode, h]

/-- The idle event moves the line alone (R1, R4, R13). -/
theorem lineIdle_eq (n : NodeNum) (s : State) :
    lineIdle n s = { s with lau := heardFrom (ownNode s) n s.lau } := rfl

/-- The command of a frame is the idle event of a run that holds it (DESIGN CHOICE, log entry 1). -/
theorem exec_commandOf (f : Frame) (s : State) :
    exec (Safety.commandOf f) s = .next (frameEnds f s) := by
  obtain ⟨n, e, body⟩ := f
  cases body with
  | report r => rfl
  | motion m =>
    cases m with
    | start d q p => cases d <;> rfl
    | keep d q p => cases d <;> rfl
    | finish k => rfl
  | halt b => rfl
  | clear => rfl

/-- A good frame of another node, once an idle event has been seen and with nothing in the transmitter
(R1, R4). -/
theorem exec_commandOf_good {f : Frame} {s : State} (hwf : f.wf = true) (hs : s.lau.synced = true)
    (ht : s.lau.transmitter = none) :
    exec (Safety.commandOf f) s = .next (goodFrame f s) := by
  rw [exec_commandOf, frameEnds_synced f hs]
  simp [endOfRun, ht, hwf, judgedRun]

/-- While the node is UNPLANNED a good frame moves the line alone (R5). -/
theorem goodFrame_unplanned (f : Frame) {s : State} (h : s.ps.plan = none) :
    goodFrame f s = lineIdle f.sender s := by
  simp [goodFrame, h]

/-- A good frame with the node's own number that is not its own is a duplicate (R7). -/
theorem goodFrame_duplicate {f : Frame} {s : State} {p : Plan} (h : s.ps.plan = some p)
    (hf : f.sender = p.node) :
    goodFrame f s = trip .duplicateNode none none (lineIdle p.node s) := by
  simp [goodFrame, h, hf]

/-- A CLEAR from outside the membership is not taken (R152). -/
theorem takeClearFrame_stranger {p : Plan} {s : State} (hp : s.ps.plan = some p) {n : NodeNum}
    (h : isMember p n = false) (e : Byte) : takeClearFrame n e s = s := by
  simp [takeClearFrame, hp, h]

/-- No owner takes a MOTION, HALT or CLEAR from outside the membership (R86, R149, R152). -/
theorem handOn_stranger {f : Frame} {s : State} {p : Plan} (h : s.ps.plan = some p)
    (hm : isMember p f.sender = false) (hk : frameKind f ≠ .report) : handOn f s = s := by
  obtain ⟨n, e, body⟩ := f
  cases body with
  | report r => exact absurd rfl hk
  | motion m => exact takeMotion_stranger h hm m
  | halt b => exact takeHalt_stranger h hm b
  | clear => exact takeClearFrame_stranger h hm e

theorem goodFrame_stranger {f : Frame} {s : State} {p : Plan} (h : s.ps.plan = some p)
    (hf : f.sender ≠ p.node) (hm : isMember p f.sender = false) (hk : frameKind f ≠ .report) :
    goodFrame f s = lineIdle f.sender s := by
  have hplan : (lineIdle f.sender s).ps.plan = some p := by simpa using h
  simp [goodFrame, h, hf, handOn_stranger hplan hm hk]

/-- A duplicate's trip leaves the line as the idle event has left it (R7). -/
theorem duplicate_last (s : State) (n : NodeNum) (c : Cause) :
    (trip c none none (lineIdle n s)).lau.last = n :=
  (trip_joined c none none .refl).receiver.last

/-- A duplicate halts a node that is not halted, on the record of R137 (R7, R139). -/
theorem duplicate_haltedWith {s : State} {p : Plan} (n : NodeNum) (h : s.ps.plan = some p)
    (hn : NotHalted s) :
    HaltedWith (localRecord .duplicateNode none s) s
      (trip .duplicateNode none none (lineIdle n s)) := by
  have hplan : (lineIdle n s).ps.plan.isSome = true := by simp [h]
  exact haltedWith_of_same (trip_haltedWith .duplicateNode none none hplan hn) rfl rfl rfl rfl rfl

end Sys2Proof.Machine

open Sys2Proof Sys2Proof.Machine Sys2Proof.Safety

/-- Settles O12, from the outcomes of a good frame: not handed on, or a duplicate and its trip. -/
theorem framesNotHandedOn : Obligations.FramesNotHandedOn := by
  refine ⟨fun s f hwf hs ht => ⟨?_, ?_⟩, fun s p f hwf hs ht hp hf => ⟨?_, ?_⟩⟩
  · intro hplan
    rw [exec_commandOf_good hwf hs ht, goodFrame_unplanned f hplan, lineIdle_eq]
  · intro p hp hf hm hk
    rw [exec_commandOf_good hwf hs ht, goodFrame_stranger hp hf hm hk, lineIdle_eq,
      ownNode_of_plan hp]
  · intro hn
    refine ⟨_, exec_commandOf_good hwf hs ht, ?_⟩
    rw [goodFrame_duplicate hp hf]
    refine ⟨?_, duplicate_last s p.node .duplicateNode, by simp⟩
    have hhalt := duplicate_haltedWith p.node hp hn
    rwa [localRecord, ownNode_of_plan hp] at hhalt
  · intro hrecord
    have hplan : (lineIdle p.node s).ps.plan.isSome = true := by simp [hp]
    rw [exec_commandOf_good hwf hs ht, goodFrame_duplicate hp hf,
      trip_halted _ _ _ hplan hrecord, lineIdle_eq, ownNode_of_plan hp]
    rfl

end

section
/-! PROOFS. The pendant's direction lines: a composed START or END in the normal lane (R9, R10), and the release
and the press of a direction (R56, R58, R81, R83). -/

namespace Sys2Proof.Machine

open Sys2Proof Sys2Proof.Safety

/-! ### Frames that take the place of the queued one of their kind (R9, R10) -/

/-- A composed frame that no queued frame holds off: neither a HALT nor a KEEP (R9, R10). -/
def Replaces (f : Frame) : Prop := ∀ old, keepsQueued old f = false

/-- A START or END is never dropped for a queued MOTION (R10). -/
theorem replaces_motionOf (p : Plan) (s : State) {m : Motion} (hm : ∀ d k q, m ≠ .keep d k q) :
    Replaces (motionOf p s m) := by
  intro old
  unfold keepsQueued motionOf
  split
  · next hnew => cases hnew
  · next hnew => exact absurd (Body.motion.inj hnew) (hm _ _ _)
  · rfl

/-- A queued frame after a newer one has taken its place if it is of the same kind, with its attempt count. -/
def replacedBy (f : Frame) (q : Queued) : Queued :=
  if frameKind q.frame == frameKind f then { q with frame := f } else q

theorem replacedBy_same {f : Frame} {q : Queued} (h : frameKind q.frame = frameKind f) :
    replacedBy f q = { q with frame := f } := by
  simp [replacedBy, h]

theorem replacedBy_other {f : Frame} {q : Queued} (h : frameKind q.frame ≠ frameKind f) :
    replacedBy f q = q := by
  simp [replacedBy, h]

/-- Of two replacements by frames of one kind the newer stands. -/
theorem replacedBy_replacedBy {e f : Frame} (hk : frameKind e = frameKind f) (q : Queued) :
    replacedBy f (replacedBy e q) = replacedBy f q := by
  by_cases h : frameKind q.frame = frameKind f
  · rw [replacedBy_same (h.trans hk.symm), replacedBy_same h, replacedBy_same hk]
  · rw [replacedBy_other (f := e) (by rwa [hk])]

theorem map_replacedBy_others {f : Frame} {lane : List Queued}
    (h : ∀ q ∈ lane, frameKind q.frame ≠ frameKind f) : lane.map (replacedBy f) = lane :=
  (List.map_congr_left fun q hq => replacedBy_other (h q hq)).trans (List.map_id' lane)

/-- A frame joins at the tail of a lane without one of its kind (R9). -/
theorem joinLane_absent {f : Frame} {lane : List Queued}
    (h : ∀ q ∈ lane, frameKind q.frame ≠ frameKind f) :
    joinLane lane f = lane ++ [{ frame := f, attempts := 0 }] := by
  have hnone : lane.find? (fun q => frameKind q.frame == frameKind f) = none := by simpa using h
  simp [joinLane, hnone]

/-- A frame that none holds off takes the place of the queued one of its kind (R9, R10). -/
theorem joinLane_present {f : Frame} (hf : Replaces f) {lane : List Queued}
    (h : ∃ q ∈ lane, frameKind q.frame = frameKind f) :
    joinLane lane f = lane.map (replacedBy f) := by
  rcases joinLane_cases lane f with ⟨hnone, -⟩ | ⟨old, -, hkeeps, -⟩ | ⟨old, -, -, hmap⟩
  · obtain ⟨q, hq, hkind⟩ := h
    exact absurd hkind (by simpa using List.find?_eq_none.1 hnone q hq)
  · simp [hf old.frame] at hkeeps
  · exact hmap

theorem takesPlace_joinLane {f : Frame} (hf : Replaces f) (lane : List Queued) :
    TakesPlace lane f (joinLane lane f) := by
  refine ⟨joinLane_absent, ?_⟩
  rintro a old b rfl hold hothers
  rw [joinLane_present hf ⟨old, by simp, hold⟩, List.map_append, List.map_cons, replacedBy_same hold,
    map_replacedBy_others fun q hq => hothers q (List.mem_append_left b hq),
    map_replacedBy_others fun q hq => hothers q (List.mem_append_right a hq)]

/-- A frame that has joined just before one of its kind leaves no trace in the lane (R9, R10). -/
theorem joinLane_joinLane {e f : Frame} (he : Replaces e) (hf : Replaces f)
    (hk : frameKind e = frameKind f) (lane : List Queued) :
    joinLane (joinLane lane e) f = joinLane lane f := by
  by_cases h : ∃ q ∈ lane, frameKind q.frame = frameKind f
  · obtain ⟨q, hq, hkind⟩ := h
    have hkind' : frameKind q.frame = frameKind e := hkind.trans hk.symm
    have hpresent : ∃ r ∈ lane.map (replacedBy e), frameKind r.frame = frameKind f :=
      ⟨replacedBy e q, List.mem_map_of_mem hq, by rw [replacedBy_same hkind']; exact hk⟩
    rw [joinLane_present he ⟨q, hq, hkind'⟩, joinLane_present hf hpresent,
      joinLane_present hf ⟨q, hq, hkind⟩, List.map_map]
    exact List.map_congr_left fun r _ => replacedBy_replacedBy hk r
  · have hothers : ∀ q ∈ lane, frameKind q.frame ≠ frameKind f := by simpa using h
    rw [joinLane_absent (f := e) (by rwa [hk]),
      joinLane_present hf ⟨{ frame := e, attempts := 0 }, by simp, hk⟩, joinLane_absent hothers,
      List.map_append, map_replacedBy_others hothers, List.map_singleton, replacedBy_same hk]

/-! ### A composed MOTION -/

/-- Of the state, a composed MOTION reads the epoch alone (R8). -/
theorem motionOf_of_tm {s t : State} (h : t.tm = s.tm) (p : Plan) (m : Motion) :
    motionOf p t m = motionOf p s m := by
  rw [motionOf, h]; rfl

@[simp] theorem motionOf_withSu (p : Plan) (s : State) (b : SessionUnit) (m : Motion) :
    motionOf p (s.withSu b) m = motionOf p s m := rfl

theorem ownMotion_of_plan {s : State} {p : Plan} (h : s.ps.plan = some p) (m : Motion) :
    ownMotion m s = motionOf p s m := by
  rw [ownMotion, ownNode_of_plan h]; rfl

/-- Under a plan a composed MOTION joins the normal lane (R9). -/
theorem composeMotion_normal {s : State} {p : Plan} (h : s.ps.plan = some p) (m : Motion) :
    (composeMotion m s).lau.normal = joinLane s.lau.normal (motionOf p s m) := by
  obtain ⟨_, -, hjoin⟩ := lauJoin_cases p.node s.lau (motionOf p s m)
  rw [composeMotion, ownMotion_of_plan h, compose, h]
  exact congrArg LineAccess.normal hjoin

@[simp] theorem composeMotion_urgent (m : Motion) (s : State) :
    (composeMotion m s).lau.urgent = s.lau.urgent := by
  rcases compose_cases (ownMotion m s) s with ⟨-, e⟩ | ⟨p, -, e⟩ <;> rw [composeMotion, e]
  obtain ⟨_, -, hjoin⟩ := lauJoin_cases p.node s.lau (ownMotion m s)
  rw [State.withLau_lau, hjoin]; rfl

/-! ### A release of a direction (R83) -/

/-- What a release does: it ends the press record, and composes the END of a WAITING or HELD press (R83). -/
theorem takeRelease_cases (s : State) :
    (∃ k d q, (s.su.press = .waiting k d q ∨ s.su.press = .held k d q)
        ∧ takeRelease s = composeMotion (.finish k) (s.withSu { s.su with press := .none }))
      ∨ ((s.su.press = .none ∨ ∃ k d q, s.su.press = .spent k d q)
        ∧ takeRelease s = s.withSu { s.su with press := .none }) := by
  unfold takeRelease
  split
  · next k d q h => exact .inl ⟨k, d, q, .inl h, rfl⟩
  · next k d q h => exact .inl ⟨k, d, q, .inr h, rfl⟩
  · next k d q h => exact .inr ⟨.inr ⟨k, d, q, h⟩, rfl⟩
  · next h => exact .inr ⟨.inl h, by rw [← h]; rfl⟩

/-- The state in which a press of a new direction is taken: the old direction released, if one was held (R56). -/
def afterRelease (old : Option Direction) (s : State) : State :=
  if old.isSome then takeRelease s else s

/-- What a release leaves beside the Column Interface: the press record and the normal lane alone may move (R83). -/
structure ReleasedTo (s t : State) : Prop where
  su : ∃ r, t.su = { s.su with press := r }
  urgent : t.lau.urgent = s.lau.urgent
  phc : t.phc = s.phc
  tm : t.tm = s.tm
  pt : t.pt = s.pt
  ps : t.ps = s.ps
  sp : t.sp = s.sp

theorem afterRelease_releasedTo (old : Option Direction) (s : State) :
    ReleasedTo s (afterRelease old s) := by
  unfold afterRelease
  split
  · rcases takeRelease_cases s with ⟨k, _, _, -, e⟩ | ⟨-, e⟩ <;> rw [e]
    · exact ⟨⟨.none, by simp⟩, by simp, by simp, by simp, by simp, by simp, by simp⟩
    · exact ⟨⟨.none, rfl⟩, rfl, rfl, rfl, rfl, rfl, rfl⟩
  · exact ⟨⟨s.su.press, rfl⟩, rfl, rfl, rfl, rfl, rfl, rfl⟩

@[simp] theorem afterRelease_ci (old : Option Direction) (s : State) :
    (afterRelease old s).ci = s.ci := by
  unfold afterRelease
  split
  · rcases takeRelease_cases s with ⟨_, _, _, -, e⟩ | ⟨-, e⟩ <;> simp [e]
  · rfl

/-- The END of a released press leaves no trace behind the START of the new one (R10, R56). -/
theorem joinLane_afterRelease {s : State} {p : Plan} (hp : s.ps.plan = some p) {f : Frame}
    (hf : Replaces f) (hk : frameKind f = .motion) (old : Option Direction) :
    joinLane (afterRelease old s).lau.normal f = joinLane s.lau.normal f := by
  unfold afterRelease
  split
  · rcases takeRelease_cases s with ⟨k, _, _, -, e⟩ | ⟨-, e⟩ <;> rw [e]
    · rw [composeMotion_normal (s := s.withSu { s.su with press := .none }) hp]
      exact joinLane_joinLane (replaces_motionOf p _ (by simp)) hf hk.symm _
    · rfl
  · rfl

/-- With no press record to end by an END, a release composes nothing (R83). -/
theorem afterRelease_lau {old : Option Direction} {s : State}
    (h : old = none ∨ s.su.press = .none ∨ ∃ k d q, s.su.press = .spent k d q) :
    (afterRelease old s).lau = s.lau := by
  unfold afterRelease
  split
  · rcases takeRelease_cases s with ⟨k, d, q, hpress, -⟩ | ⟨-, e⟩
    · rcases hpress with hpress | hpress <;> simp_all
    · rw [e]; rfl
  · rfl

/-! ### A press of a direction (R58, R81) -/

/-- The three selector levels form the number they came from (R58). -/
theorem selectorValue_withPendant (l : FilteredLevels) (up down : Bool) (sel : BitVec 3) :
    selectorValue (withPendant l up down sel) = sel.toNat := by
  have hbits : ∀ v : BitVec 3,
      bitAt (some (v.getLsbD 0) == some true) 0 + bitAt (some (v.getLsbD 1) == some true) 1
        + bitAt (some (v.getLsbD 2) == some true) 2 = v.toNat := by decide
  exact hbits sel

theorem selectedPreset_withPendant (l : FilteredLevels) (up down : Bool) (sel : BitVec 3) :
    selectedPreset (withPendant l up down sel) =
      if h : sel.toNat < 5 then ⟨sel.toNat, h⟩ else 0 := by
  simp only [selectedPreset, selectorValue_withPendant]

theorem heldOf_direction (d : Direction) : heldOf (some (d == .up)) (some (d == .down)) = some d := by
  cases d <;> rfl

/-- A press that the Session Unit takes is WAITING, and its START is composed (R81). -/
theorem takePress_taken {s : State} {p : Plan} (hp : s.ps.plan = some p)
    (hd : isDeaf s.phc.phase = false) (ha : s.ps.adopted = true) (d : Direction) (q : Preset) :
    takePress d q s = composeMotion (.start d (s.su.sequence + 1) q)
      (s.withSu { s.su with sequence := s.su.sequence + 1,
                            press := .waiting ⟨p.node, s.su.sequence + 1⟩ d q }) := by
  simp [takePress, hd, ha, ownNode_of_plan hp]

/-- In a deaf phase or unadopted a press is SPENT (R81). -/
theorem takePress_refused {s : State} (h : isDeaf s.phc.phase = true ∨ s.ps.adopted = false)
    (d : Direction) (q : Preset) :
    takePress d q s = s.withSu { s.su with press := .spent none d (some q) } := by
  rcases h with h | h <;> simp [takePress, h]

/-- The state with a direction's lines at their new levels and the direction held, before the Session Unit hears
of it (R56). -/
def heldState (d : Direction) (sel : BitVec 3) (s : State) : State :=
  s.withCi { s.ci with levels := withPendant s.ci.levels (d == .up) (d == .down) sel, held := some d }

/-- The new levels apart, the press of a new direction finds what the release of the old one has left (R56). -/
theorem heldState_releasedTo (old : Option Direction) (d : Direction) (sel : BitVec 3) (s : State) :
    ReleasedTo s (afterRelease old (heldState d sel s)) :=
  have ⟨hsu, hurgent, hphc, htm, hpt, hps, hsp⟩ := afterRelease_releasedTo old (heldState d sel s)
  ⟨hsu, hurgent, hphc, htm, hpt, hps, hsp⟩

/-- A change to a held direction is the release of the old one and then a press of the new one, with the preset
that the selector forms (R56, R58). -/
theorem exec_press {s : State} (hp : s.ps.plan.isSome = true) {d : Direction} (sel : BitVec 3)
    (hup : s.ci.levels.up.isSome = true) (hdown : s.ci.levels.down.isSome = true)
    (hheld : s.ci.held ≠ some d) :
    exec (.heldDirectionChange (d == .up) (d == .down) sel) s =
      .next (takePress d (if h : sel.toNat < 5 then ⟨sel.toNat, h⟩ else 0)
        (afterRelease s.ci.held (heldState d sel s))) := by
  obtain ⟨p, hplan⟩ := Option.isSome_iff_exists.1 hp
  change execHeldDirectionChange _ _ _ s = _
  have hnew : heldOf (withPendant s.ci.levels (d == .up) (d == .down) sel).up
      (withPendant s.ci.levels (d == .up) (d == .down) sel).down = some d := heldOf_direction d
  simp [execHeldDirectionChange, hnew, Option.isNone_eq_false_iff.2 hup,
    Option.isNone_eq_false_iff.2 hdown, hheld, handDirection, hplan, afterRelease, heldState,
    selectedPreset_withPendant]

end Sys2Proof.Machine

open Sys2Proof Sys2Proof.Machine Sys2Proof.Safety

/-- Settles O42, from the press as a release and a press taken or refused in the state it leaves. -/
theorem pressComposesStart : Obligations.PressComposesStart := by
  intro s p d sel hplan hup hdown hheld
  have hexec := exec_press (by simp [hplan]) sel hup hdown hheld
  obtain ⟨⟨r, hsu⟩, hurgent, hphc, htm, hpt, hps, hsp⟩ := heldState_releasedTo s.ci.held d sel s
  have hnew : (afterRelease s.ci.held (heldState d sel s)).ci.held = some d := by simp [heldState]
  refine ⟨fun hdeaf hadopted => ⟨_, hexec, ?_⟩, fun hrefused hpress => ⟨_, hexec, ?_⟩⟩
  · rw [takePress_taken (hps ▸ hplan) (hphc ▸ hdeaf) (hps ▸ hadopted)]
    refine ⟨by simp [hsu], ?_, by simp [hurgent], by simpa using hnew, by simp [hphc], by simp [htm],
      by simp [hpt], by simp [hps], by simp [hsp]⟩
    have hstart : ∀ k q, Replaces (motionOf p s (.start d k q)) :=
      fun k q => replaces_motionOf p s (by simp)
    rw [composeMotion_normal (p := p) (by simp [hps, hplan]), motionOf_withSu, motionOf_of_tm htm,
      State.withSu_lau, joinLane_afterRelease (s := heldState d sel s) hplan (hstart _ _) rfl, hsu]
    exact takesPlace_joinLane (hstart _ _) s.lau.normal
  · rw [takePress_refused (by rwa [hphc, hps])]
    exact ⟨by simp [hsu], afterRelease_lau hpress, hnew, hphc, htm, hps⟩

end

section
/-! PROOFS. The pendant's END: a release ends the press held (R56, R83), and a stop press ends the session held
or a WAITING press (R57, R84). -/

namespace Sys2Proof.Machine

open Sys2Proof Sys2Proof.Safety

/-! ### A composed END -/

/-- Between two states the END of a token has been composed: it has taken its place in the normal lane, and the
urgent lane, the phase, the Trip Monitor and the Plan Store stand as they did (R9, R10, R83, R84). -/
structure EndComposed (p : Plan) (k : Token) (s t : State) : Prop where
  normal : TakesPlace s.lau.normal (motionOf p s (.finish k)) t.lau.normal
  urgent : t.lau.urgent = s.lau.urgent
  phc : t.phc = s.phc
  tm : t.tm = s.tm
  ps : t.ps = s.ps

/-- An END is composed whatever the new levels and the new press record are. -/
theorem composeMotion_endComposed {s : State} {p : Plan} (hp : s.ps.plan = some p) (k : Token)
    (c : ColumnInterface) (u : SessionUnit) :
    EndComposed p k s (composeMotion (.finish k) ((s.withCi c).withSu u)) where
  normal := by
    rw [composeMotion_normal (s := (s.withCi c).withSu u) hp, motionOf_withSu,
      motionOf_of_tm (State.withCi_tm s c)]
    exact takesPlace_joinLane (replaces_motionOf p s (by simp)) s.lau.normal
  urgent := by simp
  phc := by simp
  tm := by simp
  ps := by simp

/-! ### The release of a direction (R56, R83) -/

/-- A released WAITING or HELD press composes its END (R83). -/
theorem takeRelease_open {s : State} {k : Token} {d : Direction} {q : Preset}
    (h : s.su.press = .waiting k d q ∨ s.su.press = .held k d q) :
    takeRelease s = composeMotion (.finish k) (s.withSu { s.su with press := .none }) := by
  rcases h with h | h <;> simp [takeRelease, h]

/-- A released SPENT or absent press composes nothing (R83). -/
theorem takeRelease_over {s : State}
    (h : s.su.press = .none ∨ ∃ k d q, s.su.press = .spent k d q) :
    takeRelease s = s.withSu { s.su with press := .none } := by
  rcases takeRelease_cases s with ⟨_, _, _, hopen, -⟩ | ⟨-, e⟩
  · rcases hopen with hopen | hopen <;> simp [hopen] at h
  · exact e

/-- Neither button pressed, or both, is no held direction (R56). -/
theorem heldOf_both (both : Bool) : heldOf (some both) (some both) = none := by
  cases both <;> rfl

/-- The Column Interface when both direction lines have come to one level, and no direction is held (R56). -/
def releasedLines (both : Bool) (sel : BitVec 3) (ci : ColumnInterface) : ColumnInterface :=
  { ci with levels := withPendant ci.levels both both sel, held := none }

/-- A change from a held direction to none is a release (R56). -/
theorem exec_release {s : State} (hp : s.ps.plan.isSome = true) {d : Direction} (both : Bool)
    (sel : BitVec 3) (hup : s.ci.levels.up.isSome = true) (hdown : s.ci.levels.down.isSome = true)
    (hheld : s.ci.held = some d) :
    exec (.heldDirectionChange both both sel) s =
      .next (takeRelease (s.withCi (releasedLines both sel s.ci))) := by
  obtain ⟨p, hplan⟩ := Option.isSome_iff_exists.1 hp
  change execHeldDirectionChange _ _ _ s = _
  have hnew : heldOf (withPendant s.ci.levels both both sel).up
      (withPendant s.ci.levels both both sel).down = none := heldOf_both both
  simp [execHeldDirectionChange, hnew, Option.isNone_eq_false_iff.2 hup,
    Option.isNone_eq_false_iff.2 hdown, hheld, handDirection, hplan, releasedLines]

/-! ### The stop press (R57, R84) -/

/-- With a session held, a stop press composes the session's END and ends the press (R84). -/
theorem takeStop_session {s : State} {ss : Session} (hd : isDeaf s.phc.phase = false)
    (h : s.su.session = some ss) :
    takeStop s = composeMotion (.finish ss.token)
      (s.withSu { s.su with press := pressOnStop s.su.press }) := by
  simp [takeStop, hd, h]

/-- With no session held, a stop press ends a WAITING press with its END (R84). -/
theorem takeStop_waiting {s : State} {k : Token} {d : Direction} {q : Preset}
    (hd : isDeaf s.phc.phase = false) (h : s.su.session = none)
    (hw : s.su.press = .waiting k d q) :
    takeStop s = composeMotion (.finish k)
      (s.withSu { s.su with press := .spent (some k) d (some q) }) := by
  simp [takeStop, hd, h, hw]

/-- With neither a session nor a WAITING press there is nothing to stop (R84). -/
theorem takeStop_idle {s : State} (h : s.su.session = none)
    (hw : ∀ k d q, s.su.press ≠ .waiting k d q) : takeStop s = s := by
  unfold takeStop
  split
  · rfl
  · cases hpr : s.su.press with
    | waiting k d q => exact absurd hpr (hw k d q)
    | held k d q => simp [h]
    | spent k d q => simp [h]
    | none => simp [h]

/-- UNPLANNED, STARTING and HALTED take no stop press (R84). -/
theorem takeStop_deaf {s : State} (hd : isDeaf s.phc.phase = true) : takeStop s = s := by
  simp [takeStop, hd]

/-- The Column Interface with the line of STOP at a level (R57). -/
def stopLine (pressed : Bool) (ci : ColumnInterface) : ColumnInterface :=
  { ci with levels := { ci.levels with stop := some pressed } }

/-- Under a plan the change of STOP to pressed is handed on (R57). -/
theorem exec_stopPress {s : State} (hp : s.ps.plan.isSome = true)
    (hstop : s.ci.levels.stop = some false) :
    exec (.stopPress true) s = .next (takeStop (s.withCi (stopLine true s.ci))) := by
  change execStopPress true s = _
  simp [execStopPress, hstop, hp, stopLine]

/-- A stop press that the Session Unit leaves aside moves the level alone (R57, R84). -/
theorem exec_stopPress_idle {s : State}
    (h : takeStop (s.withCi (stopLine true s.ci)) = s.withCi (stopLine true s.ci)) :
    exec (.stopPress true) s = .next (s.withCi (stopLine true s.ci)) := by
  change execStopPress true s = _
  unfold execStopPress
  dsimp only
  split
  · exact congrArg _ h
  · rfl

/-- A release of STOP moves the level alone (R57). -/
theorem exec_stopRelease (s : State) :
    exec (.stopPress false) s = .next (s.withCi (stopLine false s.ci)) := by
  change execStopPress false s = _
  simp [execStopPress, stopLine]

/-- The press that a stop press leaves with a session held: a WAITING or HELD one is SPENT (R84). -/
theorem pressOnStop_open {r : Press} {k : Token} {d : Direction} {q : Preset}
    (h : r = .waiting k d q ∨ r = .held k d q) : pressOnStop r = .spent (some k) d (some q) := by
  rcases h with rfl | rfl <;> rfl

/-- A SPENT or absent press stays (R84). -/
theorem pressOnStop_over {r : Press} (h : r = .none ∨ ∃ k d q, r = .spent k d q) :
    pressOnStop r = r := by
  rcases h with rfl | ⟨k, d, q, rfl⟩ <;> rfl

end Sys2Proof.Machine

open Sys2Proof Sys2Proof.Machine Sys2Proof.Safety

/-- Settles O43, from the release as the end of the press record in the state of the new levels. -/
theorem releaseComposesEnd : Obligations.ReleaseComposesEnd := by
  intro s p d both sel hplan hheld hup hdown
  have hexec := exec_release (by simp [hplan]) both sel hup hdown hheld
  refine ⟨fun k d' ps hopen => ⟨_, hexec, ?_⟩, fun hover => ⟨_, hexec, ?_⟩⟩
  · rw [takeRelease_open (s := s.withCi (releasedLines both sel s.ci)) hopen]
    obtain ⟨hnormal, hurgent, hphc, htm, hps⟩ :=
      composeMotion_endComposed hplan k (releasedLines both sel s.ci) { s.su with press := .none }
    exact ⟨by simp, by simp [releasedLines], hnormal, hurgent, hphc, htm, hps⟩
  · rw [takeRelease_over (s := s.withCi (releasedLines both sel s.ci)) hover]
    exact ⟨rfl, rfl, rfl, rfl, rfl, rfl⟩

/-- Settles O44, from the outcomes of a stop press in the Session Unit: the END of the session, the END of a
WAITING press, or nothing. -/
theorem stopPressEnds : Obligations.StopPressEnds := by
  refine fun s => ⟨fun hstop => ⟨?_, ?_, ?_, ?_⟩, exec_stopRelease s⟩
  · intro p ss hplan hsession hdeaf
    refine ⟨_, exec_stopPress (by simp [hplan]) hstop, ?_⟩
    rw [takeStop_session (s := s.withCi (stopLine true s.ci)) hdeaf hsession]
    obtain ⟨hnormal, hurgent, hphc, htm, hps⟩ := composeMotion_endComposed hplan ss.token
      (stopLine true s.ci) { s.su with press := pressOnStop s.su.press }
    exact ⟨by simp [hsession], by simp, fun k d ps hopen => by simp [pressOnStop_open hopen],
      fun hover => by simp [pressOnStop_over hover], hnormal, hurgent, by simp [stopLine], hphc, htm,
      hps⟩
  · intro p k d ps hplan hsession hwaiting hdeaf
    refine ⟨_, exec_stopPress (by simp [hplan]) hstop, ?_⟩
    rw [takeStop_waiting (s := s.withCi (stopLine true s.ci)) hdeaf hsession hwaiting]
    obtain ⟨hnormal, hurgent, hphc, htm, hps⟩ := composeMotion_endComposed hplan k
      (stopLine true s.ci) { s.su with press := .spent (some k) d (some ps) }
    exact ⟨by simp, hnormal, hurgent, by simp [stopLine], hphc, htm, hps⟩
  · exact fun hsession hwaiting =>
      exec_stopPress_idle (takeStop_idle (s := s.withCi _) hsession hwaiting)
  · exact fun hdeaf => exec_stopPress_idle (takeStop_deaf (s := s.withCi _) hdeaf)

end

section
/-! PROOFS. The end of a session with a stop cause: where it leaves the column, the press and the cause (R73,
R74, R85, R93), and the END that brings it (R91). -/

namespace Sys2Proof.Machine

open Sys2Proof Sys2Proof.Safety

/-! ### An ended session stays ended (R73, R74) -/

/-- No session is held, and the last stop cause stands at `c`. -/
structure EndedBy (c : StopCause) (s : State) : Prop where
  session : s.su.session = none
  lastStop : s.phc.lastStop = c

@[simp] theorem enterPhase_lastStop (p : Phase) (s : State) :
    (enterPhase p s).phc.lastStop = s.phc.lastStop := by
  simp [enterPhase]

@[simp] theorem haltOrder_lastStop (s : State) : (haltOrder s).phc.lastStop = s.phc.lastStop := by
  unfold haltOrder
  dsimp only
  split <;> simp

section EndedBy

variable {c : StopCause} {s : State}

theorem EndedBy.enterPhase (h : EndedBy c s) (p : Phase) : EndedBy c (enterPhase p s) :=
  ⟨by simp [h.session], by simp [h.lastStop]⟩

/-- A halt records no stop cause (R74, R94). -/
theorem EndedBy.trip (h : EndedBy c s) (k : Cause) (d : Option TravelSide) (n : Option NodeNum) :
    EndedBy c (trip k d n s) := by
  rcases trip_cases k d n s with ⟨-, e⟩ | ⟨-, -, e⟩ | ⟨-, -, e⟩ <;> rw [e]
  · exact h
  · exact ⟨by simp [h.session], by simp [h.lastStop]⟩
  · obtain ⟨-, -, -, -, -, hsession⟩ := applyHalt_spec (localRecord k n (setFlag k d s))
      (compose (haltFrame k n (setFlag k d s)) (setFlag k d s))
    exact ⟨hsession, by simp [localHalt, applyHalt, h.lastStop]⟩

theorem EndedBy.tripAll (h : EndedBy c s) (ks : List (Cause × Option TravelSide)) :
    EndedBy c (tripAll ks s) := by
  induction ks generalizing s with
  | nil => exact h
  | cons k ks ih => exact ih (h.trip k.1 k.2 none)

theorem EndedBy.columnAt (h : EndedBy c s) (old new : Phase) : EndedBy c (columnAt old new s) := by
  unfold Machine.columnAt
  extract_lets _ s1
  have h1 : EndedBy c s1 := by
    simp only [s1]
    split <;> exact ⟨h.session, h.lastStop⟩
  have hci : ∀ ci, EndedBy c (s1.withCi ci) := fun _ => ⟨h1.session, h1.lastStop⟩
  split
  · split
    · exact (hci _).trip _ _ _
    · split
      · exact h1
      · exact hci _
  · split
    · exact ⟨by simp [h1.session], by simp [h1.lastStop]⟩
    · exact h1

theorem EndedBy.changePhase (h : EndedBy c s) (p : Phase) : EndedBy c (changePhase p s) := by
  have h1 := (h.enterPhase p).columnAt s.phc.phase p
  unfold Machine.changePhase
  split
  · exact h
  · dsimp only
    split
    · exact h1.tripAll _
    · exact h1

end EndedBy

/-! ### A change of phase in which nothing trips (R62, R141, R142) -/

/-- With the loop closed, no drive fault and NUT not made, no switch trips in a phase that is not moving
(R141). -/
theorem switchCauses_eq_nil {s : State} (h : NothingTrips s) {p : Phase} (hp : isMoving p = false) :
    switchCauses p s.ci.levels = [] := by
  obtain ⟨hestop, hfault, hnut, -, -⟩ := h
  cases p <;> simp_all [switchCauses, isMoving]

/-- Below the runs of R142 no load cause holds in any phase. -/
theorem loadCauses_eq_nil {s : State} (h : NothingTrips s) : loadCauses s = [] := by
  obtain ⟨-, -, -, hover, hloss⟩ := h
  unfold loadCauses
  split
  · rfl
  · simp [overloadHolds, loadLostHolds, hover, hloss]

/-- What trips is told from the lines and the load runs, which the drive outputs do not touch (R141, R142). -/
theorem nothingTrips_of_measured {s t : State} (h : measured t.ci = measured s.ci)
    (hs : NothingTrips s) : NothingTrips t := by
  have hlevels : t.ci.levels = s.ci.levels := (congrArg ColumnInterface.levels h :)
  have hover : t.ci.overloadRun = s.ci.overloadRun := (congrArg ColumnInterface.overloadRun h :)
  have hloss : t.ci.lossRun = s.ci.lossRun := (congrArg ColumnInterface.lossRun h :)
  unfold NothingTrips
  rwa [hlevels, hover, hloss]

/-- Where nothing trips, the change to a phase that is not moving is the entry and the Column Interface's part
alone (R62). -/
theorem changePhase_quiet {s : State} (h : NothingTrips s) {p : Phase} (hp : isMoving p = false)
    (hne : s.phc.phase ≠ p) :
    changePhase p s = columnAt s.phc.phase p (enterPhase p s) := by
  have h1 : NothingTrips (columnAt s.phc.phase p (enterPhase p s)) :=
    nothingTrips_of_measured (by simp) h
  simp [changePhase, hne, switchCauses_eq_nil h1 hp, loadCauses_eq_nil h1, tripAll]

/-- Out of a moving phase the drive is made safe (R52). -/
theorem columnAt_stops {old new : Phase} (s : State) (hnew : isMoving new = false)
    (hold : isMoving old = true) : columnAt old new s = safeDrive s := by
  have hretract : new ≠ .retract := by rintro rfl; simp [isMoving] at hnew
  simp [columnAt, hnew, hold, hretract]

/-! ### What the Phase Controller makes of the end (R73, R74) -/

theorem phaseOnEnd_eq_stoppedPhase (p : Phase) : phaseOnEnd p = stoppedPhase p := by
  cases p <;> rfl

theorem endIsRecorded_moving {p : Phase} (h : isMoving p = true) (st : SessionState) :
    endIsRecorded p st = true := by
  cases p <;> simp_all [isMoving, endIsRecorded]

/-- At rest the end is recorded in CONTACT, and of a PENDING session in IDLE and HOLD (R74). -/
theorem endIsRecorded_rest {p : Phase} (h : isMoving p = false) (st : SessionState) :
    endIsRecorded p st = true ↔
      p = .contact ∨ ((p = .idle ∨ p = .hold) ∧ st = .pending) := by
  cases p <;> simp_all [isMoving, endIsRecorded]

/-- The stop of a moving column: the cause, the entry into the phase of R73, and a safe drive. -/
theorem tellEnded_moving {s : State} (h : isMoving s.phc.phase = true) (hq : NothingTrips s)
    (c : StopCause) (st : SessionState) :
    tellEnded c st s = safeDrive (enterPhase (stoppedPhase s.phc.phase) (setLastStop c s)) := by
  have hstop : isMoving (stoppedPhase s.phc.phase) = false ∧
      s.phc.phase ≠ stoppedPhase s.phc.phase := by
    cases hp : s.phc.phase <;> simp_all [isMoving, stoppedPhase]
  obtain ⟨hrest, hne⟩ := hstop
  rw [tellEnded, endIsRecorded_moving h, phaseOnEnd_eq_stoppedPhase, if_pos rfl,
    changePhase_quiet (s := setLastStop c s) hq hrest hne]
  exact columnAt_stops _ hrest h

/-- CONTACT goes to HOLD, and the drive is not told anything (R73). -/
theorem tellEnded_contact {s : State} (h : s.phc.phase = .contact) (hq : NothingTrips s)
    (c : StopCause) (st : SessionState) :
    tellEnded c st s = enterPhase .hold (setLastStop c s) := by
  have hphase : (setLastStop c s).phc.phase = .contact := h
  rw [tellEnded, h]
  change changePhase .hold (setLastStop c s) = _
  rw [changePhase_quiet (s := setLastStop c s) hq rfl (by simp [hphase]), hphase]
  exact columnAt_still _ _ _ rfl rfl

/-- Every other phase stays, and the last stop cause alone may move (R73, R74). -/
theorem tellEnded_stays {s : State} (h : isMoving s.phc.phase = false)
    (hc : s.phc.phase ≠ .contact) (c : StopCause) (st : SessionState) :
    tellEnded c st s = s.withPhc { s.phc with
      lastStop := if endIsRecorded s.phc.phase st then c else s.phc.lastStop } := by
  have hkept : phaseOnEnd s.phc.phase = s.phc.phase := by
    cases hp : s.phc.phase <;> simp_all [isMoving, phaseOnEnd]
  rw [tellEnded, hkept]
  split
  · exact changePhase_same (setLastStop c s)
  · exact changePhase_same s

/-- An end that goes on touches neither the Session Unit nor the line (R93). -/
theorem tellEnded_keeps {s : State} (h : EndGoesOn s) (c : StopCause) (st : SessionState) :
    (tellEnded c st s).su = s.su ∧ (tellEnded c st s).lau = s.lau := by
  by_cases hm : isMoving s.phc.phase = true
  · obtain ⟨-, hq⟩ := h (.inl hm)
    simp [tellEnded_moving hm hq]
  · by_cases hc : s.phc.phase = .contact
    · obtain ⟨-, hq⟩ := h (.inr hc)
      simp [tellEnded_contact hc hq]
    · simp [tellEnded_stays (by simpa using hm) hc]

/-- The Phase Controller records the cause where R74 says, whatever trips on the way. -/
theorem tellEnded_endedBy {s : State} (h : s.su.session = none) (c : StopCause)
    (st : SessionState) :
    EndedBy (if endIsRecorded s.phc.phase st then c else s.phc.lastStop) (tellEnded c st s) := by
  unfold tellEnded
  apply EndedBy.changePhase
  split
  · exact ⟨h, rfl⟩
  · exact ⟨h, rfl⟩

/-! ### The end of a session (R85, R93) -/

/-- The state in which the Phase Controller is told of the end: the record NONE, the press as the end leaves it,
and after a CONFLICT the END of a WAITING press composed (R85, R93). -/
def recordEnded (c : StopCause) (ss : Session) (s : State) : State :=
  let t := s.withSu { s.su with session := none, press := pressOnEnd c ss.token s.su.press }
  if c = .conflict then composeEndOf s.su.press t else t

section recordEnded

variable (c : StopCause) (ss : Session) (s : State)

@[simp] theorem recordEnded_pending : (recordEnded c ss s).pending = s.pending := by
  unfold recordEnded; dsimp only; split <;> simp
@[simp] theorem recordEnded_ci : (recordEnded c ss s).ci = s.ci := by
  unfold recordEnded; dsimp only; split <;> simp
@[simp] theorem recordEnded_phc : (recordEnded c ss s).phc = s.phc := by
  unfold recordEnded; dsimp only; split <;> simp
@[simp] theorem recordEnded_su : (recordEnded c ss s).su =
    { s.su with session := none, press := pressOnEnd c ss.token s.su.press } := by
  unfold recordEnded; dsimp only; split <;> simp
@[simp] theorem recordEnded_pu : (recordEnded c ss s).pu = s.pu := by
  unfold recordEnded; dsimp only; split <;> simp
@[simp] theorem recordEnded_tm : (recordEnded c ss s).tm = s.tm := by
  unfold recordEnded; dsimp only; split <;> simp
@[simp] theorem recordEnded_ps : (recordEnded c ss s).ps = s.ps := by
  unfold recordEnded; dsimp only; split <;> simp

end recordEnded

/-- Only a CONFLICT composes (R85). -/
theorem recordEnded_lau {c : StopCause} (hc : c ≠ .conflict) (ss : Session) (s : State) :
    (recordEnded c ss s).lau = s.lau := by
  simp [recordEnded, hc]

/-- The end of the session held, told to the Phase Controller (R93). -/
theorem endSession_some {s : State} {ss : Session} (h : s.su.session = some ss) (c : StopCause) :
    endSession c s = tellEnded c ss.state (recordEnded c ss s) := by
  simp [endSession, h, recordEnded]

/-- The press that the end leaves is the one of R85 and R93. -/
theorem pressAfterEnd_of_pressOnEnd {c : StopCause} {k : Token} {s t : State}
    (h : t.su.press = pressOnEnd c k s.su.press) : PressAfterEnd c k s t := by
  refine ⟨fun _ _ _ hpress => ?_, fun _ _ _ hpress => ?_, fun _ _ _ hpress => ?_, fun hpress => ?_⟩
  all_goals rw [h, hpress]; rfl

/-! ### What the end leaves (R51, R52, R73, R74) -/

@[simp] theorem enterPhase_tm (p : Phase) (s : State) :
    (enterPhase p s).tm =
      { s.tm with restHeight := if isResting p then s.ci.height else none } := by
  simp [enterPhase]

@[simp] theorem enterPhase_startup (p : Phase) (s : State) :
    (enterPhase p s).phc.startup = s.phc.startup := by
  simp [enterPhase]

/-- The end of a session in a moving phase is the controlled stop (R51, R52, R73). -/
theorem endSession_stoppedWith {s : State} {ss : Session} (h : s.su.session = some ss)
    (hm : isMoving s.phc.phase = true) (hq : NothingTrips s) (c : StopCause) :
    StoppedWith c s (endSession c s) := by
  have hq' : NothingTrips (recordEnded c ss s) := nothingTrips_of_measured (by simp) hq
  rw [endSession_some h, tellEnded_moving (by simpa using hm) hq']
  have hzero := safeDrive_zeroWordSent
    (enterPhase (stoppedPhase s.phc.phase) (setLastStop c (recordEnded c ss s)))
  exact ⟨by simp, by simp, by simp [setLastStop], by simp, by simp, by simp, by simpa using hzero,
    by simp, by simp, by simp, by simp, by simp, by simp, by simp⟩

/-- The end of a session in CONTACT leads to HOLD with h_c kept and the contact timer stopped (R73, R75). -/
theorem endSession_contact {s : State} {ss : Session} (h : s.su.session = some ss)
    (hc : s.phc.phase = .contact) (hq : NothingTrips s) (c : StopCause) :
    EndedAtRest c ss s (endSession c s) := by
  have hq' : NothingTrips (recordEnded c ss s) := nothingTrips_of_measured (by simp) hq
  rw [endSession_some h, tellEnded_contact (by simpa using hc) hq']
  exact ⟨by simp, by simp [hc], by simp [hc, setLastStop],
    by simp [hc, contactTimerAt, isWaitingContact], by simp [setLastStop], by simp [hc, isResting],
    by simp, by simp, by simp, by simp⟩

/-- The end of a session in a phase that stays (R73, R74). -/
theorem endSession_stays {s : State} {ss : Session} (h : s.su.session = some ss)
    (hm : isMoving s.phc.phase = false) (hc : s.phc.phase ≠ .contact) (c : StopCause) :
    EndedAtRest c ss s (endSession c s) := by
  have hrecorded := endIsRecorded_rest hm ss.state
  rw [endSession_some h, tellEnded_stays (by simpa using hm) (by simpa using hc)]
  exact ⟨by simp, by simp [hc], by simp [hrecorded], by simp [hc], by simp, by simp [hc], by simp,
    by simp, by simp, by simp⟩

theorem endGoesOn_recordEnded {s : State} (h : EndGoesOn s) (c : StopCause) (ss : Session) :
    EndGoesOn (recordEnded c ss s) := by
  simpa [EndGoesOn, NothingTrips] using h

/-- What a session end that goes on leaves, in every phase (R73, R85, R93). -/
theorem endSession_sessionEnded {s : State} {ss : Session} (h : s.su.session = some ss)
    (hgo : EndGoesOn s) (c : StopCause) : SessionEnded c ss s (endSession c s) := by
  have hsu : (endSession c s).su =
      { s.su with session := none, press := pressOnEnd c ss.token s.su.press } := by
    obtain ⟨hsu, -⟩ := tellEnded_keeps (endGoesOn_recordEnded hgo c ss) c ss.state
    rw [endSession_some h, hsu, recordEnded_su]
  refine ⟨fun hm => ?_, fun hm => ?_, pressAfterEnd_of_pressOnEnd (by rw [hsu]), by rw [hsu]⟩
  · obtain ⟨-, hq⟩ := hgo (.inl hm)
    exact endSession_stoppedWith h hm hq c
  · by_cases hc : s.phc.phase = .contact
    · obtain ⟨-, hq⟩ := hgo (.inr hc)
      exact endSession_contact h hc hq c
    · exact endSession_stays h hm hc c

/-- An end that goes on and is no CONFLICT composes nothing (R93). -/
theorem endSession_lau {s : State} (hgo : EndGoesOn s) {c : StopCause} (hc : c ≠ .conflict) :
    (endSession c s).lau = s.lau := by
  cases h : s.su.session with
  | none => rw [endSession_none c h]
  | some ss =>
    obtain ⟨-, hlau⟩ := tellEnded_keeps (endGoesOn_recordEnded hgo c ss) c ss.state
    rw [endSession_some h, hlau, recordEnded_lau hc]

/-- Whatever trips on the way, the end leaves no session, and the cause where R74 records it. -/
theorem endSession_endedBy {s : State} {ss : Session} (h : s.su.session = some ss) (c : StopCause) :
    EndedBy (if endIsRecorded s.phc.phase ss.state then c else s.phc.lastStop) (endSession c s) := by
  rw [endSession_some h]
  simpa using tellEnded_endedBy (s := recordEnded c ss s) (by simp) c ss.state

/-! ### An END on the line (R86, R91) -/

/-- A MOTION of another node, heard from the line, reaches the Session Unit behind the idle event (R5, R86). -/
theorem exec_commandOf_motion {s : State} {p : Plan} {n : NodeNum} (h : Hears s p n) (e : Byte)
    (m : Motion) :
    exec (Safety.commandOf { sender := n, epochByte := e, body := .motion m }) s =
      .next (takeMotion n m (lineIdle n s)) := by
  obtain ⟨hp, hsynced, htransmitter, hn⟩ := h
  rw [exec_commandOf_good rfl hsynced htransmitter]
  simp [goodFrame, hp, hn, handOn]

/-- An END of a member is the idle event and then the END taken (R91). -/
theorem exec_endSession {s : State} {p : Plan} {n : NodeNum} (h : Hears s p n)
    (hm : isMember p n = true) (e : Byte) (k : Token) :
    exec (.endSession n e k) s = .next (takeEnd n k (lineIdle n s)) := by
  have ⟨hp, _⟩ := h
  refine (exec_commandOf_motion h e (.finish k)).trans ?_
  simp [takeMotion, hp, hm]

/-- The END of the session held ends it (R91). -/
theorem takeEnd_held {s : State} {ss : Session} (h : s.su.session = some ss) (n : NodeNum) :
    takeEnd n ss.token s =
      endSession (if n = ss.token.originator then .released else .stopped) s := by
  simp [takeEnd, h]

/-- The END of another session is ignored (R91). -/
theorem takeEnd_other {s : State} {k : Token} (h : ∀ ss, s.su.session = some ss → ss.token ≠ k)
    (n : NodeNum) : takeEnd n k s = s := by
  rcases takeEnd_cases n k s with ⟨-, e⟩ | ⟨hk, -⟩
  · exact e
  · obtain ⟨ss, hss, hk⟩ := Option.map_eq_some_iff.1 hk
    exact absurd hk (h ss hss)

end Sys2Proof.Machine

open Sys2Proof Sys2Proof.Machine Sys2Proof.Safety

/-- Settles O21, from the end of the session held in the state that the idle event leaves. -/
theorem endStops : Obligations.EndStops := by
  intro s p n e k hears hmember
  have hexec := exec_endSession hears hmember e k
  obtain ⟨hplan, -, -, -⟩ := hears
  have hidle : (lineIdle n s).lau = heardFrom p.node n s.lau := by
    rw [lineIdle_eq, ownNode_of_plan hplan]
  refine ⟨?_, ?_, fun hother => ?_⟩
  · rintro ss hsession rfl
    refine ⟨_, hexec, ?_⟩
    have hsession' : (lineIdle n s).su.session = some ss := hsession
    rw [takeEnd_held hsession']
    obtain ⟨hnone, hstop⟩ := endSession_endedBy hsession' _
    exact ⟨hnone, hstop⟩
  · rintro ss hsession rfl hgo
    refine ⟨_, hexec, ?_⟩
    have hsession' : (lineIdle n s).su.session = some ss := hsession
    have hgo' : EndGoesOn (lineIdle n s) := hgo
    rw [takeEnd_held hsession']
    refine ⟨endSession_sessionEnded hsession' hgo' _, ?_, by simp⟩
    rw [endSession_lau hgo' (by split <;> simp), hidle]
  · rw [hexec, takeEnd_other (s := lineIdle n s) hother, lineIdle_eq, ownNode_of_plan hplan]

end

section
/-! PROOFS. The magnitude that the lead gives: its two cases, its bounds and its monotony (R109). -/

namespace Sys2Proof.Machine

open Sys2Proof Sys2Proof.Safety

/-! ### The two cases of the throttle (R109) -/

/-- Inside the window the speed falls in proportion to the lead, and not below the creep speed. -/
theorem throttle_of_lt_window {p : Plan} {e : Nat} (h : e < p.window) (v : Nat) :
    throttle p v e = max (v * (p.window - e) / p.window) p.creep :=
  if_neg (Nat.not_le.2 h)

theorem throttle_of_window_le {p : Plan} {e : Nat} (h : p.window ≤ e) (v : Nat) :
    throttle p v e = 0 :=
  if_pos h

/-! ### Bounds and monotony -/

theorem creep_le_throttle {p : Plan} {e : Nat} (h : e < p.window) (v : Nat) :
    p.creep ≤ throttle p v e := by
  rw [throttle_of_lt_window h]
  exact le_max_right _ _

/-- The throttle never exceeds a speed that is at least the creep speed, whatever the lead. -/
theorem throttle_le {p : Plan} {v : Nat} (hcreep : p.creep ≤ v) (e : Nat) : throttle p v e ≤ v := by
  rcases Nat.lt_or_ge e p.window with h | h
  · rw [throttle_of_lt_window h]
    refine max_le (Nat.div_le_of_le_mul ?_) hcreep
    calc v * (p.window - e) ≤ v * p.window := Nat.mul_le_mul_left v (Nat.sub_le _ _)
      _ = p.window * v := Nat.mul_comm _ _
  · rw [throttle_of_window_le h]
    exact Nat.zero_le v

/-- A column that leads nobody drives at its whole speed. -/
theorem throttle_zero {p : Plan} {v : Nat} (hwindow : 0 < p.window) (hcreep : p.creep ≤ v) :
    throttle p v 0 = v := by
  rw [throttle_of_lt_window hwindow, Nat.sub_zero, Nat.mul_div_cancel v hwindow]
  exact max_eq_left hcreep

/-- The demand falls as the lead grows: the quotient inside the window, and to 0 at its end. -/
theorem throttle_antitone (p : Plan) (v : Nat) : Antitone (throttle p v) := by
  intro e e' hle
  rcases Nat.lt_or_ge e' p.window with h' | h'
  · rw [throttle_of_lt_window h', throttle_of_lt_window (hle.trans_lt h')]
    have hquotient : v * (p.window - e') / p.window ≤ v * (p.window - e) / p.window :=
      Nat.div_le_div_right (Nat.mul_le_mul_left v (Nat.sub_le_sub_left hle _))
    exact max_le_max_right p.creep hquotient
  · rw [throttle_of_window_le h']
    exact Nat.zero_le _

/-- R166 clamps the window W to 4 at the least. -/
theorem window_pos {p : Plan} (h : PlanInRange p) : 0 < p.window := by
  obtain ⟨-, -, -, -, -, -, -, -, -, -, ⟨hwindow, -⟩, -⟩ := h
  omega

end Sys2Proof.Machine

open Sys2Proof Sys2Proof.Machine Sys2Proof.Safety

/-- Settles O30, from the throttle's two cases, its bounds and its monotony. -/
theorem throttleFalls : Obligations.ThrottleFalls := by
  intro p v e e' hrange hcreep
  refine ⟨throttle_zero (window_pos hrange) hcreep, fun hlt => ?_, fun hge => ?_, fun hle => ?_⟩
  · exact ⟨throttle_of_lt_window hlt v, creep_le_throttle hlt v, throttle_le hcreep e⟩
  · exact throttle_of_window_le hge v
  · exact throttle_antitone p v hle

end

section
/-! PROOFS. The lock monitor's table, row by row: what a lead makes of each sync state (R129 to R131). -/

namespace Sys2Proof.Machine

open Sys2Proof

/-! ### ACQUIRE: a run of leads inside the window (R129) -/

theorem lockStep_acquire_of_window_le {w e : Nat} (h : w ≤ e) (run : Nat) :
    lockStep w e .acquire run = (.acquire, 0) :=
  if_neg (Nat.not_lt.2 h)

theorem lockStep_acquire_of_lt_window {w e : Nat} (h : e < w) (run : Nat) :
    lockStep w e .acquire run = if 4 ≤ run + 1 then (.track, 0) else (.acquire, run + 1) :=
  if_pos h

/-! ### TRACK: a run of leads inside half the window (R130) -/

theorem lockStep_track_of_two_window_le {w e : Nat} (h : 2 * w ≤ e) (run : Nat) :
    lockStep w e .track run = (.acquire, 0) :=
  if_pos h

theorem lockStep_track_between {w e : Nat} (hhalf : w / 2 ≤ e) (htwice : e < 2 * w) (run : Nat) :
    lockStep w e .track run = (.track, 0) :=
  (if_neg (Nat.not_le.2 htwice)).trans (if_neg (Nat.not_lt.2 hhalf))

theorem lockStep_track_of_lt_half {w e : Nat} (h : e < w / 2) (run : Nat) :
    lockStep w e .track run = if 16 ≤ run + 1 then (.lock, 0) else (.track, run + 1) := by
  have htwice : ¬ 2 * w ≤ e := by omega
  exact (if_neg htwice).trans (if_pos h)

/-! ### LOCK: kept inside the window, with whatever run it has (R131) -/

theorem lockStep_lock_of_two_window_le {w e : Nat} (h : 2 * w ≤ e) (run : Nat) :
    lockStep w e .lock run = (.acquire, 0) :=
  if_pos h

theorem lockStep_lock_between {w e : Nat} (hwindow : w ≤ e) (htwice : e < 2 * w) (run : Nat) :
    lockStep w e .lock run = (.track, 0) :=
  (if_neg (Nat.not_le.2 htwice)).trans (if_pos hwindow)

theorem lockStep_lock_of_lt_window {w e : Nat} (h : e < w) (run : Nat) :
    lockStep w e .lock run = (.lock, run) := by
  have htwice : ¬ 2 * w ≤ e := by omega
  exact (if_neg htwice).trans (if_neg (Nat.not_le.2 h))

end Sys2Proof.Machine

open Sys2Proof Sys2Proof.Machine Sys2Proof.Safety

/-- Settles O33, from the rows of the lock monitor's table and the two run lengths, 4 and 16. -/
theorem lockMonitorTable : Obligations.LockMonitorTable := by
  intro w e run
  refine ⟨fun hout => lockStep_acquire_of_window_le hout run, fun hin hshort => ?_, fun hin hfull => ?_,
    fun hfar => ⟨lockStep_track_of_two_window_le hfar run, lockStep_lock_of_two_window_le hfar run⟩,
    fun hhalf hnear => lockStep_track_between hhalf hnear run, fun hhalf hshort => ?_,
    fun hhalf hfull => ?_, fun hout hnear => lockStep_lock_between hout hnear run,
    fun hin => lockStep_lock_of_lt_window hin 0⟩
  · rw [lockStep_acquire_of_lt_window hin, if_neg (Nat.not_le.2 hshort)]
  · rw [lockStep_acquire_of_lt_window hin, if_pos hfull.ge]
  · rw [lockStep_track_of_lt_half hhalf, if_neg (Nat.not_le.2 hshort)]
  · rw [lockStep_track_of_lt_half hhalf, if_pos hfull.ge]

end

section
/-! PROOFS. The reset request: its line and hold timer (R57), and the CLEAR that a halted node composes at the
end of the hold (R151). -/

namespace Sys2Proof.Machine

open Sys2Proof Sys2Proof.Safety

/-! ### A composed CLEAR in the urgent lane (R9) -/

/-- Under a plan a composed HALT or CLEAR joins the urgent lane, and the deferral alone moves with it (R9, R13). -/
theorem compose_urgent_lau {f : Frame} {s : State} {p : Plan} (hp : s.ps.plan = some p)
    (hu : isUrgent f = true) :
    ∃ d, (compose f s).lau = { s.lau with urgent := joinLane s.lau.urgent f, deferral := d } := by
  obtain ⟨d, -, hjoin⟩ := lauJoin_cases p.node s.lau f
  refine ⟨d, ?_⟩
  rw [compose, hp]
  simpa [hu] using hjoin

theorem isUrgent_clearFrame (s : State) : isUrgent (clearFrame s) = true := rfl

/-- A CLEAR is never dropped for a queued one (R9, R10). -/
theorem replaces_clearFrame (s : State) : Replaces (clearFrame s) := by
  intro old
  unfold keepsQueued clearFrame
  split
  · next hnew => cases hnew
  · next hnew => cases hnew
  · rfl

/-! ### The hold timer (R57) -/

/-- The Column Interface with the line of RESET_REQ at a level and the hold timer at a value (R57). -/
def resetLine (pressed : Bool) (timer : Option Nat) (ci : ColumnInterface) : ColumnInterface :=
  { ci with levels := { ci.levels with resetReq := some pressed }, holdTimer := timer }

theorem exec_resetPress {s : State} (h : s.ci.levels.resetReq = some false) :
    exec (.resetReqChange true) s = .next (s.withCi (resetLine true (some 1000000) s.ci)) := by
  change execResetReqChange true s = _
  simp [execResetReqChange, h, resetLine, holdTime]

theorem exec_resetRelease (s : State) :
    exec (.resetReqChange false) s = .next (s.withCi (resetLine false none s.ci)) := by
  change execResetReqChange false s = _
  simp [execResetReqChange, resetLine]

/-- The state once the running hold timer has expired and stopped (R57). -/
def holdOver (s : State) : State := s.withCi { s.ci with holdTimer := none }

/-- The end of the hold is one reset request, which a halted node alone answers (R57, R151). -/
theorem exec_holdExpiry {s : State} (h : s.ci.holdTimer.isSome = true) :
    exec .resetRequestHoldExpiry s =
      .next (if isHalted s then compose (clearFrame s) (holdOver s) else holdOver s) := by
  obtain ⟨left, hleft⟩ := Option.isSome_iff_exists.1 h
  change execResetRequestHoldExpiry s = _
  rw [execResetRequestHoldExpiry, hleft]
  rfl

theorem exec_holdExpiry_notHalted {s : State} (h : s.ci.holdTimer.isSome = true)
    (hrecord : s.tm.record = none) : exec .resetRequestHoldExpiry s = .next (holdOver s) := by
  rw [exec_holdExpiry h, if_neg (by simp [isHalted, hrecord])]

theorem exec_holdExpiry_halted {s : State} (h : s.ci.holdTimer.isSome = true)
    (hrecord : s.tm.record.isSome = true) :
    exec .resetRequestHoldExpiry s = .next (compose (clearFrame s) (holdOver s)) := by
  rw [exec_holdExpiry h, if_pos (by rwa [isHalted])]

end Sys2Proof.Machine

open Sys2Proof Sys2Proof.Machine Sys2Proof.Safety

/-- Settles O45, from the start and stop of the hold timer and the two answers to its expiry: nothing, or the
CLEAR in the urgent lane. -/
theorem resetRequestClears : Obligations.ResetRequestClears := by
  refine fun s => ⟨exec_resetPress, exec_resetRelease s, exec_holdExpiry_notHalted, ?_⟩
  intro p htimer hhalted hplan
  refine ⟨_, exec_holdExpiry_halted htimer hhalted, ?_⟩
  obtain ⟨d, hlau⟩ := compose_urgent_lau (s := holdOver s) hplan (isUrgent_clearFrame s)
  rw [hlau, ← ownNode_of_plan hplan]
  exact ⟨takesPlace_joinLane (replaces_clearFrame s) s.lau.urgent, rfl, compose_ci _ _,
    compose_phc _ _, compose_tm _ _, compose_su _ _, compose_ps _ _, compose_sp _ _⟩

end

section
/-! PROOFS. One walk through every command: what is kept by each shared operation is kept by every command that
is built on them (95_what_each_step_holds.md). The laws of the later sections are shown of the shared operations
alone. -/

namespace Sys2Proof.Machine

open Sys2Proof Sys2Proof.Safety

/-! ### Changes beside phase, record and drive -/

/-- No frame is in hand and no deferral runs (R18). -/
def LanesEmpty (l : LineAccess) : Prop :=
  l.urgent = [] ∧ l.normal = [] ∧ l.transmitter = none ∧ l.deferral = none

/-- Words have gone out to the drive and none has been added (R51). -/
structure WordsGo (ci ci' : ColumnInterface) : Prop where
  old : ∀ d, ci'.transfer = some d ∨ ci'.nextWord = some d → ci.transfer = some d ∨ ci.nextWord = some d
  behind : (ci.transfer = none → ci.nextWord = none) → ci'.transfer = none → ci'.nextWord = none
  held : heldValue ci' = heldValue ci

theorem WordsGo.of_eq {ci ci' : ColumnInterface} (ht : ci'.transfer = ci.transfer)
    (hn : ci'.nextWord = ci.nextWord) (hl : ci'.lastWord = ci.lastWord) : WordsGo ci ci' := by
  refine ⟨?_, ?_, ?_⟩
  · rw [ht, hn]; exact fun _ h => h
  · rw [ht, hn]; exact fun h => h
  · rw [heldValue, ht, hn, hl]; rfl

theorem WordsGo.trans {a b d : ColumnInterface} (h : WordsGo a b) (h' : WordsGo b d) : WordsGo a d :=
  ⟨fun w hw => h.old w (h'.old w hw), fun ha => h'.behind (h.behind ha), h'.held.trans h.held⟩

/-- The image, the adopted flag and the fingerprint stand, or a service write has marked the plan unadopted
(R169). -/
def StoreKept (ps ps' : PlanStore) : Prop :=
  (ps'.image = ps.image ∧ ps'.adopted = ps.adopted ∧ ps'.fingerprint = ps.fingerprint)
    ∨ (ps'.adopted = false ∧ ps'.fingerprint = none ∧ (ps.image.wf = true → ps'.image.wf = true))

/-- A change beside the ones that the laws are about: phase, record, flags, plan, drive lines and demand stand,
and of the rest each part moves only as its own law allows. -/
structure Aside (s t : State) : Prop where
  phase : t.phc.phase = s.phc.phase := by rfl
  contactTimer : s.phc.contactTimer = none → t.phc.contactTimer = none := by exact id
  record : t.tm.record = s.tm.record := by rfl
  flags : t.tm.flags = s.tm.flags := by rfl
  side : t.tm.travelSide = s.tm.travelSide := by rfl
  rest : t.tm.restHeight = s.tm.restHeight := by rfl
  plan : t.ps.plan = s.ps.plan := by rfl
  store : StoreKept s.ps t.ps := by exact .inl ⟨rfl, rfl, rfl⟩
  enable : t.ci.driveEnable = s.ci.driveEnable := by rfl
  brake : t.ci.brakeRelease = s.ci.brakeRelease := by rfl
  demand : t.pu.demand = s.pu.demand := by rfl
  words : WordsGo s.ci t.ci := by exact .of_eq rfl rfl rfl
  runs : RunsLaw s.ci → RunsLaw t.ci := by exact id
  silence : s.ps.plan = none → s.ci.loadTimer = none →
    t.ci.loadTimer = none ∧ t.ci.loadSilent = s.ci.loadSilent := by exact fun _ h => ⟨h, rfl⟩
  pace : PaceLaw s.pu → PaceLaw t.pu := by exact id
  sync : isPacing s.phc.phase = false → t.pu.sync = s.pu.sync ∧ t.pu.lockRun = s.pu.lockRun := by
    exact fun _ => ⟨rfl, rfl⟩
  timer : s.ps.plan = none → s.pu.timer = none → t.pu.timer = none := by exact fun _ => id
  session : t.su.session = s.su.session
    ∨ ∃ ss n, s.su.session = some ss ∧ t.su.session = some { ss with keep := n } := by exact .inl rfl
  press : t.su.press = s.su.press
    ∨ (s.ps.plan.isSome = true ∧ ∀ k d q, t.su.press ≠ .held k d q) := by exact .inl rfl
  lanes : s.ps.plan = none → LanesEmpty s.lau → LanesEmpty t.lau := by exact fun _ => id
  table : s.ps.plan = none → t.pt = s.pt := by exact fun _ => rfl
  peers : ∀ p, s.ps.plan = some p → 2 ≤ p.kSil → TableLaw p s.pt → TableLaw p t.pt := by
    exact fun _ _ _ => id

/-- The frame of a command but for the receiver: what it may change only when it is one of those that reach it. -/
structure Framed (c : Instr) (s t : State) : Prop where
  pending : t.pending = s.pending := by rfl
  free : ((∀ a w b f, c ≠ .positionReadComplete a w b f) ∨ s.ps.plan.isSome = true) →
    t.freeCount = s.freeCount := by intros; rfl
  ps : reachesPlanStore c = false → t.ps = s.ps := by intros; rfl
  pt : reachesTable c = false → t.pt = s.pt := by intros; rfl
  others : (∃ a w b f, c = .positionReadComplete a w b f) → ∀ p, s.ps.plan = some p →
    ∀ j, j ≠ p.node → t.pt.entry j = s.pt.entry j := by intros; rfl
  epoch : reachesEpoch c = false → t.tm.epoch = s.tm.epoch := by intros; rfl
  ci : reachesColumn c = false → measured t.ci = measured s.ci := by intros; rfl
  sp : reachesServiceLine c = false → t.sp = { s.sp with latch := t.sp.latch } := by intros; rfl
  mask : reachesMask c = false → t.sp.mask = s.sp.mask := by intros; rfl
  computed : reachesComputation c = false →
    t.pu.sample = s.pu.sample ∧ t.pu.lifting = s.pu.lifting ∧ t.pu.clamped = s.pu.clamped
      ∧ t.pu.lastWindow = s.pu.lastWindow ∧ t.tm.stall = s.tm.stall
      ∧ t.tm.prevHeight = s.tm.prevHeight := by
    intros; exact ⟨rfl, rfl, rfl, rfl, rfl, rfl⟩
  sequence : reachesSequence c = false → t.su.sequence = s.su.sequence := by intros; rfl

/-- A change beside the laws that is within the command's frame. -/
structure Sidestep (c : Instr) (s t : State) : Prop extends Aside s t, Framed c s t

/-! ### What a predicate must be kept by -/

/-- The commands that can end a halt by a clear or by catch-up (R152, R156). -/
def clears : Instr → Bool
  | .idleEvent _ | .transmissionComplete | .clear _ _ => true
  | .report _ _ b => b.halt.isNone
  | _ => false

/-- The commands that can reset the node (R19, R175). -/
def resets : Instr → Bool
  | .reset | .restart | .unknownCommandCode _ | .serviceByteReceived _ => true
  | _ => false

/-- Under a command `c` every shared operation keeps `P`, where `c` can come to it. -/
structure Kept (c : Instr) (P : State → Prop) : Prop where
  aside {s t : State} : Sidestep c s t → P s → P t
  trip {s : State} (k : Cause) (d : Option TravelSide) (n : Option NodeNum) :
    (d.isSome = true ↔ k = .travelLimit) → P s → P (trip k d n s)
  remote {s : State} (k : Cause) (n : NodeNum) (w : Word) (q : Option NodeNum) :
    s.ps.plan.isSome = true → isHalted s = false → P s → P (remoteHalt k n w q s)
  accept {s : State} (k : Token) (d : Direction) (q : Preset) : reachesReceiver c = true →
    s.ps.plan.isSome = true → s.su.session = none → P s → P (acceptSession k d q s)
  pending {s : State} : s.ps.plan.isSome = true → P s → P (applyPending s)
  ended {s : State} (k : StopCause) : s.ps.plan.isSome = true → P s → P (endSession k s)
  clear {s : State} (e : Byte) : clears c = true → P s → P (takeClear e s)
  started {s : State} : s.ps.plan.isSome = true → s.phc.phase = .starting → P s →
    P (changePhase .idle s)
  contact {s : State} : s.ps.plan.isSome = true → P s → P (contactMade s)
  unloaded {s : State} (p : Plan) : s.ps.plan = some p → P s → P (unloaded p s)
  arrive {s : State} : s.ps.plan.isSome = true → s.phc.phase = .lift ∨ s.phc.phase = .lower → P s →
    P (arrive s)
  start {s : State} (p : Plan) : (∃ a w b f, c = .positionReadComplete a w b f) →
    s.ps.plan = some p → P s → P (startCondition p s)
  retract {s : State} (p : Plan) : s.ps.plan = some p → P s → P (retractCheck p s)
  demand {s : State} (p : Plan) (v e : Nat) (k : Step) : (∃ a w b f, c = .positionReadComplete a w b f) →
    s.ps.plan = some p → v ≤ speedOf p k → P s → P (giveDemand (demandOf p s v e) s)
  adopt {s : State} (m : Memory) (o : StoreOperation) : reachesAll c = true →
    (planPermitted s = true ∨ ∃ bytes, c = .loadComplete bytes) → (m = s.ps.image ∨ m.wf = true) →
    P s → P (adoption (s.withPs { s.ps with image := m, op := o }))
  reset {s : State} : resets c = true → P s → P (resetNode s)

section walk

variable {c : Instr} {P : State → Prop} {s : State}

/-! ### Frames that join and the line -/

theorem compose_sidestep (c : Instr) (f : Frame) (s : State) : Sidestep c s (compose f s) := by
  rcases compose_cases f s with ⟨-, e⟩ | ⟨p, hp, e⟩ <;> rw [e]
  · exact {}
  · exact { lanes := fun h => absurd (hp.symm.trans h) (by simp) }

theorem composeMotion_sidestep (c : Instr) (m : Motion) (s : State) : Sidestep c s (composeMotion m s) :=
  compose_sidestep c _ s

theorem lineIdle_sidestep (c : Instr) (n : NodeNum) (s : State) : Sidestep c s (lineIdle n s) where
  lanes _ h := by
    obtain ⟨hu, hn, ht, -⟩ := h
    simp [lineIdle, lauIdle, startDeferral, LanesEmpty, headFrame, hu, hn, ht]

/-- Another Line Access Unit, with empty lanes where they were empty without a plan. -/
theorem withLau_sidestep (c : Instr) {s : State} {l : LineAccess}
    (hl : s.ps.plan = none → LanesEmpty s.lau → LanesEmpty l) : Sidestep c s (s.withLau l) where
  lanes := hl

theorem latchWhen_sidestep (c : Instr) (b : Bool) (e : Event) (s : State) :
    Sidestep c s (latchWhen b e s) := by
  unfold latchWhen
  split <;> exact {}

/-! ### Sessions and the frames of other nodes -/

theorem Kept.startOrKeep (h : Kept c P) (hr : reachesReceiver c = true) (k : Token) (d : Direction)
    (q : Preset) (hp : s.ps.plan.isSome = true) (hs : P s) : P (takeStartOrKeep k d q s) := by
  rcases takeStartOrKeep_cases k d q s with
    ⟨hn, e⟩ | ⟨ss, hss, -, -, e⟩ | ⟨ss, hss, -, -, e⟩ | ⟨ss, hss, -, e⟩ <;> rw [e]
  · exact h.accept k d q hr hp hn hs
  · exact h.aside { session := .inr ⟨ss, 0, hss, rfl⟩ } hs
  · have hended := endSession_endedBy hss .released
    exact h.accept k d q hr (by simpa using hp) hended.session (h.ended _ hp hs)
  · exact h.ended _ hp hs

theorem Kept.motion (h : Kept c P) (hr : reachesReceiver c = true) (n : NodeNum) (m : Motion) (hs : P s) :
    P (takeMotion n m s) := by
  unfold takeMotion
  split
  · exact hs
  · next p hp =>
    have hp' : s.ps.plan.isSome = true := by simp [hp]
    split
    · cases m with
      | start d q p => exact h.startOrKeep hr _ _ _ hp' hs
      | keep d q p => exact h.startOrKeep hr _ _ _ hp' hs
      | finish k =>
        rcases takeEnd_cases n k s with ⟨-, e⟩ | ⟨-, e⟩ <;> dsimp only <;> rw [e]
        · exact hs
        · exact h.ended _ hp' hs
    · exact hs

theorem Kept.haltFrame (h : Kept c P) (n : NodeNum) (b : HaltBody) (hs : P s) : P (takeHalt n b s) := by
  unfold takeHalt
  split
  · exact hs
  · next p hp =>
    split
    · next hc => exact h.remote _ _ _ _ (by simp [hp]) (by simp_all) hs
    · exact hs

theorem Kept.clearFrame (h : Kept c P) (hc : clears c = true) (n : NodeNum) (e : Byte) (hs : P s) :
    P (takeClearFrame n e s) := by
  unfold takeClearFrame
  split
  · exact hs
  · split
    · exact h.clear e hc hs
    · exact hs

/-- A report teaches, halts, clears, or does nothing more (R29, R150, R156). -/
theorem judgeReport_cases (n : NodeNum) (r : Reported) (s : State) :
    ∃ s1, (s1 = s ∨ s1 = s.withTm { s.tm with epoch := r.epoch })
      ∧ (judgeReport n r s = s1
        ∨ (∃ k, isHalted s1 = false ∧ judgeReport n r s = remoteHalt k n r.lift none s1)
        ∨ (∃ e, r.halt = none ∧ isHalted s = true ∧ judgeReport n r s = takeClear e s1)) := by
  unfold judgeReport
  extract_lets _ s1
  refine ⟨s1, by simp only [s1]; split <;> simp, ?_⟩
  have hs1 : isHalted s1 = isHalted s := by simp only [s1]; split <;> rfl
  split
  · next hh =>
    obtain ⟨⟨⟨hn, -⟩, -⟩, -⟩ : ((isHalted s1 = false ∧ r.halt.isSome = true) ∧ _) ∧ _ := by
      simpa [reportHalts] using hh
    split
    · exact .inr (.inl ⟨_, hn, rfl⟩)
    · exact .inl rfl
  · split
    · next hh =>
      split
      · refine .inr (.inr ⟨_, ?_, ?_, rfl⟩)
        · have : r.halt.isNone = true := by
            simp only [reportClears, Bool.and_eq_true] at hh; exact hh.1.2
          simpa using this
        · rw [← hs1, isHalted]
          cases hrec : s1.tm.record with
          | none => simp [reportClears, hrec] at hh
          | some x => rfl
      · exact .inl rfl
    · exact .inl rfl

theorem Kept.judge (h : Kept c P) (he : reachesEpoch c = true) {r : Reported}
    (hc : r.halt = none → clears c = true) (n : NodeNum) (hp : s.ps.plan.isSome = true) (hs : P s) :
    P (judgeReport n r s) := by
  obtain ⟨s1, hs1, hcases⟩ := judgeReport_cases n r s
  have h1 : P s1 ∧ s1.ps = s.ps := by
    rcases hs1 with rfl | rfl
    · exact ⟨hs, rfl⟩
    · exact ⟨h.aside { epoch := by simp [he] } hs, rfl⟩
  obtain ⟨h1, hps⟩ := h1
  rcases hcases with e | ⟨k, hn, e⟩ | ⟨b, hr, -, e⟩ <;> rw [e]
  · exact h1
  · exact h.remote _ _ _ _ (by rw [hps]; exact hp) hn h1
  · exact h.clear b (hc hr) h1

/-! ### The Peer Table -/

/-- A table keeps its law when one entry is replaced by one that fits its number. -/
theorem tableLaw_setEntry {p : Plan} {t : PeerTable} (h : TableLaw p t) {n : NodeNum} {e : PeerEntry}
    (hself : e.state = .self ↔ n = p.node)
    (hmember : n ≠ p.node → (isMember p n = false ↔ (e.state = .unlisted ∨ e.state = .stranger)))
    (hentry : EntryLaw p.kSil e) : TableLaw p (t.setEntry n e) := by
  obtain ⟨hs, hm, he, hl⟩ := h
  have others {j : NodeNum} (hj : j ≠ n) : (t.setEntry n e).entry j = t.entry j :=
    PeerTable.entry_setEntry_other t e hj
  refine ⟨fun j => ?_, fun j hj => ?_, fun j => ?_, hl⟩
  · by_cases hjn : j = n
    · subst hjn; simpa using hself
    · rw [others hjn]; exact hs j
  · by_cases hjn : j = n
    · subst hjn; simpa using hmember hj
    · rw [others hjn]; exact hm j hj
  · by_cases hjn : j = n
    · subst hjn; simpa using hentry
    · rw [others hjn]; exact he j

/-- The states a report leads to (R26): it makes no entry SELF, and lists strangers and members apart. -/
theorem stateAfterReport_cases (own : Option Word) (w : Word) (st : EntryState) :
    ((st = .unlisted ∨ st = .stranger) ∧ stateAfterReport own w st = .stranger)
      ∨ (st = .self ∧ stateAfterReport own w st = .self)
      ∨ ((st ≠ .unlisted ∧ st ≠ .stranger ∧ st ≠ .self)
        ∧ (stateAfterReport own w st = .live ∨ stateAfterReport own w st = .mismatched)) := by
  cases st <;> simp [stateAfterReport] <;> exact em _

/-- A report of another number keeps the table's law (R22, R26). -/
theorem tableLaw_recordReport {p : Plan} {t : PeerTable} (h : TableLaw p t) (hk : 2 ≤ p.kSil)
    {n : NodeNum} (hn : n ≠ p.node) (own : Option Word) (e : Byte) (r : ReportBody) :
    TableLaw p (t.setEntry n (recordReport own e r (t.entry n))) := by
  obtain ⟨hs, hm, -, -⟩ := id h
  have hself : (t.entry n).state ≠ .self := fun hc => hn ((hs n).1 hc)
  have hlisted := hm n hn
  have hpos : 0 < p.kSil := by omega
  rcases stateAfterReport_cases own r.fingerprint (t.entry n).state with
    ⟨hold, hnew⟩ | ⟨hold, -⟩ | ⟨⟨hu, hst, -⟩, hnew⟩
  · refine tableLaw_setEntry h ?_ ?_ ?_ <;> simp_all [recordReport, EntryLaw]
  · exact absurd hold hself
  · rcases hnew with hnew | hnew <;> refine tableLaw_setEntry h ?_ ?_ ?_ <;>
      simp_all [recordReport, EntryLaw]

/-- An expiry keeps the law of an entry, and neither lists nor makes one SELF (R22, R31, R32). -/
theorem ageEntry_law {k : Nat} {e : PeerEntry} (h : EntryLaw k e) :
    EntryLaw k (ageEntry k e)
      ∧ ((ageEntry k e).state = .self ↔ e.state = .self)
      ∧ (((ageEntry k e).state = .unlisted ∨ (ageEntry k e).state = .stranger)
          ↔ (e.state = .unlisted ∨ e.state = .stranger)) := by
  obtain ⟨st, report, silence, stale, fresh⟩ := e
  have hage : silence + 1 < k ∨ k ≤ silence + 1 := Nat.lt_or_ge _ _
  cases st <;> rcases hage with hage | hage <;>
    simp_all [ageEntry, EntryLaw, PeerEntry.blank, Nat.not_le.2]

theorem tableLaw_age {p : Plan} {t : PeerTable} (h : TableLaw p t) :
    TableLaw p (t.age p.kSil) := by
  obtain ⟨hs, hm, he, -⟩ := h
  refine ⟨fun j => ?_, fun j hj => ?_, fun j => ?_, freshNodes_nodup t⟩
  · obtain ⟨-, hself, -⟩ := ageEntry_law (he j)
    rw [PeerTable.entry_age, hself]; exact hs j
  · obtain ⟨-, -, hlist⟩ := ageEntry_law (he j)
    rw [PeerTable.entry_age, hlist]; exact hm j hj
  · rw [PeerTable.entry_age]; exact (ageEntry_law (he j)).1

/-- The SELF entry takes the node's own REPORT (R36). -/
theorem tableLaw_ownReport {p : Plan} {t : PeerTable} (h : TableLaw p t) (r : Reported) :
    TableLaw p (t.setEntry p.node { t.entry p.node with report := some r }) := by
  obtain ⟨hs, -, he, -⟩ := id h
  have hstate : (t.entry p.node).state = .self := (hs p.node).2 rfl
  have hself := he p.node
  refine tableLaw_setEntry h (by simp [hstate]) (fun hj => absurd rfl hj) ?_
  simpa [EntryLaw, hstate] using hself

theorem Kept.report (h : Kept c P) (ht : reachesTable c = true) (he : reachesEpoch c = true)
    {b : ReportBody} (hc : b.halt = none → clears c = true)
    (hread : ∀ a w b f, c ≠ .positionReadComplete a w b f) {p : Plan} {n : NodeNum} (e : Byte)
    (hp : s.ps.plan = some p) (hn : n ≠ p.node) (hs : P s) : P (takeReport n e b s) := by
  have h1 : P (latchWhen ((s.pt.entry n).state == .unlisted) .stranger
      (s.withPt (s.pt.setEntry n (recordReport s.ps.fingerprint e b (s.pt.entry n))))) := by
    refine h.aside (latchWhen_sidestep c _ _ _) (h.aside ?_ hs)
    exact {
      pt := by simp [ht]
      others := by rintro ⟨a, w, x, f, rfl⟩; exact absurd rfl (hread a w x f)
      table := fun h0 => absurd (hp.symm.trans h0) (by simp)
      peers := by
        intro q hq hk hl
        obtain rfl : p = q := Option.some.inj (hp.symm.trans hq)
        exact tableLaw_recordReport hl hk hn _ _ _ }
  unfold takeReport
  dsimp only
  split
  · exact h.judge he hc n (by simp [hp]) h1
  · exact h1

end walk

end Sys2Proof.Machine
end

section
/-! PROOFS. The walk through the commands, continued: what every shared operation keeps is kept by the lift bus, the
column's lines, the pendant, the computation and the service line. -/

namespace Sys2Proof.Machine

open Sys2Proof Sys2Proof.Safety

section walk

variable {c : Instr} {P : State → Prop} {s : State}

/-! ### The lift bus -/

/-- The command brings in a frame: its own row, or an idle event or completion, which bring in any (R4, R6). -/
def Brings (c : Instr) (f : Frame) : Prop :=
  (∃ rest, c = .idleEvent rest) ∨ c = .transmissionComplete ∨ c = Safety.commandOf f

theorem Brings.receiver {f : Frame} (h : Brings c f) : reachesReceiver c = true := by
  rcases h with ⟨rest, rfl⟩ | rfl | rfl
  · rfl
  · rfl
  · unfold Safety.commandOf
    split <;> rfl

/-- A command that brings in a REPORT can reach table and epoch, and clears when the REPORT is of no halt. -/
theorem Brings.report {f : Frame} {b : ReportBody} (h : Brings c f) (hb : f.body = .report b) :
    reachesTable c = true ∧ reachesEpoch c = true ∧ (b.halt = none → clears c = true)
      ∧ ∀ a w x g, c ≠ .positionReadComplete a w x g := by
  rcases h with ⟨rest, rfl⟩ | rfl | rfl
  · exact ⟨rfl, rfl, fun _ => rfl, by simp⟩
  · exact ⟨rfl, rfl, fun _ => rfl, by simp⟩
  · rw [Safety.commandOf, hb]
    exact ⟨rfl, rfl, fun hn => by simp [clears, hn], by simp⟩

theorem Brings.clear {f : Frame} (h : Brings c f) (hb : f.body = .clear) : clears c = true := by
  rcases h with ⟨rest, rfl⟩ | rfl | rfl
  · rfl
  · rfl
  · rw [Safety.commandOf, hb]; rfl

theorem Kept.handOn (h : Kept c P) {f : Frame} (hf : Brings c f) {p : Plan} (hp : s.ps.plan = some p)
    (hn : f.sender ≠ p.node) (hs : P s) : P (handOn f s) := by
  unfold Machine.handOn
  split
  · next b hb =>
    obtain ⟨ht, he, hc, hread⟩ := hf.report hb
    exact h.report ht he hc hread _ hp hn hs
  · exact h.motion hf.receiver _ _ hs
  · exact h.haltFrame _ _ hs
  · next hb => exact h.clearFrame (hf.clear hb) _ _ hs

theorem sideFits_none {k : Cause} (hk : k ≠ .travelLimit) :
    (none : Option TravelSide).isSome = true ↔ k = .travelLimit :=
  iff_of_false (by simp) hk

theorem Kept.goodFrame (h : Kept c P) {f : Frame} (hf : Brings c f) (hs : P s) : P (goodFrame f s) := by
  have h1 := h.aside (lineIdle_sidestep c f.sender s) hs
  unfold Machine.goodFrame
  dsimp only
  split
  · exact h1
  · next p hp =>
    split
    · exact h.trip _ _ _ (sideFits_none (by simp)) h1
    · next hn => exact h.handOn hf (by simpa using hp) hn h1

theorem Kept.judgedRun (h : Kept c P) {v : Option Frame} (hv : ∀ f, v = some f → Brings c f) (hs : P s) :
    P (judgedRun v s) := by
  cases v with
  | none => exact h.aside (lineIdle_sidestep c 63 s) hs
  | some f => exact h.goodFrame (hv f rfl) hs

/-- With a frame in the transmitter the lanes are not empty, so any change of the unit is a sidestep. -/
theorem Kept.sending (h : Kept c P) (ht : s.lau.transmitter.isSome = true) (l : LineAccess) (hs : P s) :
    P (s.withLau l) := by
  refine h.aside (withLau_sidestep c fun _ hl => ?_) hs
  obtain ⟨-, -, h0, -⟩ := hl
  simp [h0] at ht

theorem Kept.collided (h : Kept c P) (q : Queued) (ht : s.lau.transmitter.isSome = true) (hs : P s) :
    P (collided q s) := by
  unfold Machine.collided
  split
  · exact h.sending ht _ hs
  · exact h.trip _ _ _ (sideFits_none (by simp)) (h.sending ht _ hs)

theorem Kept.transmissionDone (h : Kept c P) {q : Queued} (hq : Brings c q.frame)
    (ht : s.lau.transmitter.isSome = true) (hs : P s) : P (transmissionDone q s) := by
  have h1 := h.aside (lineIdle_sidestep c q.frame.sender _)
    (h.sending ht { s.lau with transmitter := none } hs)
  unfold Machine.transmissionDone
  dsimp only
  split
  · exact h1
  · exact h.motion hq.receiver _ _ h1
  · exact h1
  · next hb => exact h.clearFrame (hq.clear hb) _ _ h1

theorem Kept.endOfRun (h : Kept c P) {v : Option Frame} (hv : ∀ f, v = some f → Brings c f)
    {isRun : Frame → Bool} (hrun : ∀ f, isRun f = true → Brings c f) (hs : P s) :
    P (endOfRun v isRun s) := by
  unfold Machine.endOfRun
  split
  · next q ht =>
    have ht' : s.lau.transmitter.isSome = true := by simp [ht]
    split
    · next hr => exact h.transmissionDone (hrun _ hr) ht' hs
    · exact h.judgedRun hv (h.collided q ht' hs)
  · exact h.judgedRun hv hs

theorem Kept.frameEnds (h : Kept c P) {f : Frame} (hf : Brings c f) (hs : P s) : P (frameEnds f s) := by
  cases hsync : s.lau.synced with
  | false => rw [frameEnds_unsynced f hsync]; exact h.aside (lineIdle_sidestep c _ s) hs
  | true =>
    rw [frameEnds_synced f hsync]
    refine h.endOfRun (fun g hg => ?_) (fun g hg => ?_) hs
    · split at hg
      · obtain rfl := Option.some.inj hg; exact hf
      · cases hg
    · obtain rfl : g = f := by simpa using hg
      exact hf

theorem Kept.idleEvent {rest : List BusByte} (h : Kept (.idleEvent rest) P) (hs : P s) :
    P (idleEvent rest s) := by
  have hany (f : Frame) : Brings (.idleEvent rest) f := .inl ⟨rest, rfl⟩
  unfold Machine.idleEvent
  dsimp only
  split
  · exact h.aside (lineIdle_sidestep _ _ s) hs
  · split
    · exact hs
    · exact h.endOfRun (fun f _ => hany f) (fun f _ => hany f) hs

theorem Kept.collision (h : Kept c P) (i : Nat) (b : BusByte) (hs : P s) : P (collision i b s) := by
  unfold Machine.collision
  split
  · exact hs
  · next q ht =>
    have ht' : s.lau.transmitter.isSome = true := by simp [ht]
    split
    · exact hs
    · split
      · exact hs
      · exact h.collided q (s := s.withLau _) ht' (h.sending ht' _ hs)

/-! ### Trips that meet -/

/-- A TRAVEL_LIMIT cause comes with its side, and no other cause has one (R138, R141). -/
def SideFits (x : Cause × Option TravelSide) : Prop := x.2.isSome = true ↔ x.1 = .travelLimit

theorem Kept.tripAll (h : Kept c P) {xs : List (Cause × Option TravelSide)}
    (hx : ∀ x ∈ xs, SideFits x) (hs : P s) : P (tripAll xs s) := by
  induction xs generalizing s with
  | nil => exact hs
  | cons x xs ih =>
    exact ih (fun y hy => hx y (List.mem_cons_of_mem x hy)) (h.trip _ _ _ (hx x List.mem_cons_self) hs)

theorem switchCauses_fit (ph : Phase) (l : FilteredLevels) :
    ∀ x ∈ switchCauses ph l, SideFits x := by
  intro x hx
  simp only [switchCauses, List.mem_append] at hx
  rcases hx with (((hx | hx) | hx) | hx) | hx <;> split at hx <;> simp at hx <;> subst hx <;>
    simp [SideFits]

theorem loadCauses_fit (s : State) : ∀ x ∈ loadCauses s, SideFits x := by
  intro x hx
  unfold loadCauses at hx
  split at hx
  · simp at hx
  · rw [List.mem_append] at hx
    rcases hx with hx | hx <;> split at hx <;> simp at hx <;> subst hx <;> simp [SideFits]

/-! ### Start-up and load -/

theorem Kept.decideStartup (h : Kept c P) (hp : s.ps.plan.isSome = true) (hs : P s) :
    P (decideStartup s) := by
  unfold Machine.decideStartup
  split
  · exact hs
  · split
    · exact hs
    · have h1 : P (s.withPhc { s.phc with startup := { s.phc.startup with done := true } }) :=
        h.aside {} hs
      dsimp only
      split
      · exact h.trip _ _ _ (sideFits_none (by simp)) h1
      · split
        · next hph => exact h.pending (by simpa using hp) (h.started hp hph h1)
        · exact h1

theorem Kept.noteValidRead (h : Kept c P) (hp : s.ps.plan.isSome = true) (hs : P s) :
    P (noteValidRead s) := by
  unfold Machine.noteValidRead
  split
  · exact hs
  · exact h.decideStartup (s := s.withPhc _) hp (h.aside {} hs)

theorem Kept.noteVerdict (h : Kept c P) (b : Bool) (hp : s.ps.plan.isSome = true) (hs : P s) :
    P (noteVerdict b s) := by
  unfold Machine.noteVerdict
  split
  · exact hs
  · exact h.decideStartup (s := s.withPhc _) hp (h.aside {} hs)

theorem Kept.countStartSample (h : Kept c P) (hc : reachesColumn c = true) (hp : s.ps.plan.isSome = true)
    (hs : P s) : P (countStartSample s) := by
  unfold Machine.countStartSample
  split
  · next hlt =>
    have h1 : P (s.withCi { s.ci with startSamples := s.ci.startSamples + 1 }) :=
      h.aside (s := s) {
        ci := by simp [hc]
        runs := fun ⟨a, b, d, e, f, g, _⟩ => ⟨a, b, d, e, f, g, hlt⟩ } hs
    dsimp only
    split
    · exact h.noteVerdict _ (s := s.withCi _) hp h1
    · exact h1
  · exact hs

theorem nextRun_le (run : Nat) (b : Bool) : nextRun run b ≤ 255 := by
  unfold nextRun
  split <;> omega

/-- A sample keeps the runs in their ranges, contact and unload exclusive (R46). -/
theorem runsLaw_takeLoad (p : Plan) (w : Word) {ci : ColumnInterface} (h : RunsLaw ci) :
    RunsLaw (takeLoad p w ci) := by
  obtain ⟨-, -, hle, -, -, hinvalid, hstart⟩ := h
  refine ⟨nextRun_le _ _, nextRun_le _ _, ?_, nextRun_le _ _, ?_, hinvalid, hstart⟩
  · change nextRun ci.lossRun (decide (w.toNat < p.contactLevel / 2))
      ≤ nextRun ci.unloadRun (decide (w.toNat < p.contactLevel))
    by_cases hl : w.toNat < p.contactLevel / 2
    · have hu : w.toNat < p.contactLevel := by omega
      simp only [nextRun, hl, hu, decide_true, if_true]; omega
    · simp [nextRun, hl]
  · change nextRun ci.contactRun (decide (p.contactLevel ≤ w.toNat)) = 0
      ∨ nextRun ci.unloadRun (decide (w.toNat < p.contactLevel)) = 0
    rcases Nat.lt_or_ge w.toNat p.contactLevel with hl | hl
    · exact .inl (by simp [nextRun, Nat.not_le.2 hl])
    · exact .inr (by simp [nextRun, Nat.not_lt.2 hl])

theorem Kept.loadArrives (h : Kept c P) (hc : reachesColumn c = true) {p : Plan}
    (hp : s.ps.plan = some p) (w : Word) (hs : P s) : P (loadArrives p w s) := by
  have h0 : P (s.withCi (takeLoad p w s.ci)) :=
    h.aside (s := s) {
      ci := by simp [hc]
      runs := runsLaw_takeLoad p w
      silence := fun h0 => absurd (hp.symm.trans h0) (by simp) } hs
  have h1 := h.countStartSample hc (s := s.withCi _) (by simp [hp]) h0
  have hp1 : (Machine.countStartSample (s.withCi (takeLoad p w s.ci))).ps.plan = some p := by
    unfold Machine.countStartSample; dsimp only; split
    · split <;> simpa using hp
    · exact hp
  have h2 := h.contact (by simp [hp1]) h1
  have hp2 : (Machine.contactMade (Machine.countStartSample (s.withCi (takeLoad p w s.ci)))).ps.plan = some p := by
    unfold Machine.contactMade; split <;> simpa using hp1
  exact h.tripAll (loadCauses_fit _) (h.unloaded p hp2 h2)

/-! ### The computation -/

/-- The base speed is at most the speed of the set step (R107). -/
theorem baseSpeed_le (p : Plan) (s : State) (w : Word) (k : Step) : baseSpeed p s w k ≤ speedOf p k := by
  unfold baseSpeed
  dsimp only
  repeat' split
  all_goals simp

end walk

end Sys2Proof.Machine
end

section
/-! PROOFS. The walk through the commands, continued: the pace computation, the control period, the column's lines
and the pendant. -/

namespace Sys2Proof.Machine

open Sys2Proof Sys2Proof.Safety

set_option Elab.async false

section walk

variable {c : Instr} {P : State → Prop} {s : State}

/-! ### The computation -/

/-- The command is the completion of a position read, at which the node computes (R100). -/
def IsRead (c : Instr) : Prop := ∃ a w b f, c = .positionReadComplete a w b f

/-- A change that a computation makes beside the laws is within the frame of a completed read. -/
theorem computed_sidestep (hread : IsRead c) {s t : State} (ha : Aside s t)
    (hpending : t.pending = s.pending := by rfl) (hfree : t.freeCount = s.freeCount := by rfl)
    (hps : t.ps = s.ps := by rfl) (hepoch : t.tm.epoch = s.tm.epoch := by rfl)
    (hsp : t.sp = { s.sp with latch := t.sp.latch } := by rfl)
    (hsu : t.su.sequence = s.su.sequence := by rfl)
    (hpt : ∀ p, s.ps.plan = some p → ∀ j, j ≠ p.node → t.pt.entry j = s.pt.entry j := by
      exact fun _ _ _ _ => rfl) : Sidestep c s t := by
  obtain ⟨a, w, b, f, rfl⟩ := hread
  have hmask : t.sp.mask = s.sp.mask := by rw [hsp]
  exact {
    toAside := ha
    pending := hpending
    free := fun _ => hfree
    ps := fun _ => hps
    pt := fun hc => Bool.noConfusion hc
    others := fun _ => hpt
    epoch := fun _ => hepoch
    ci := fun hc => Bool.noConfusion hc
    sp := fun _ => hsp
    mask := fun _ => hmask
    computed := fun hc => Bool.noConfusion hc
    sequence := fun _ => hsu }

/-- What the step selector leaves as it was. -/
theorem selectStep_kept (p : Plan) (sp load : Nat) (lk : Bool) (pu : PaceUnit) :
    (selectStep p sp load lk pu).demand = pu.demand ∧ (selectStep p sp load lk pu).timer = pu.timer
      ∧ (selectStep p sp load lk pu).sync = pu.sync
      ∧ (selectStep p sp load lk pu).lockRun = pu.lockRun := by
  unfold selectStep
  dsimp only
  split
  · exact ⟨rfl, rfl, rfl, rfl⟩
  · split <;> exact ⟨rfl, rfl, rfl, rfl⟩

/-- The lock monitor and the step selector keep their counters in range (R121, R128). -/
theorem paceLaw_paceJudged (p : Plan) (v : LineView) (load : Nat) {pu : PaceUnit} (h : PaceLaw pu) :
    PaceLaw (paceJudged p v load pu) := by
  obtain ⟨hrun, hcount, -⟩ := h
  have hlock := (lockStep_run p.window v.lead pu.sync pu.lockRun hrun).1
  refine ⟨?_, selectStep_window _ _ _ _ _ hcount⟩
  unfold paceJudged
  dsimp only
  rw [(selectStep_kept _ _ _ _ _).2.2.2]
  exact hlock

theorem paceJudged_kept (p : Plan) (v : LineView) (load : Nat) (pu : PaceUnit) :
    (paceJudged p v load pu).demand = pu.demand ∧ (paceJudged p v load pu).timer = pu.timer := by
  obtain ⟨hd, ht, -, -⟩ := selectStep_kept p v.spread load
    ((lockStep p.window v.lead pu.sync pu.lockRun).1 == .lock && peersLocked v)
    { pu with sync := (lockStep p.window v.lead pu.sync pu.lockRun).1
              lockRun := (lockStep p.window v.lead pu.sync pu.lockRun).2 }
  exact ⟨hd, ht⟩

theorem Kept.judgePace (h : Kept c P) (hread : IsRead c) (p : Plan) (v : LineView) (hs : P s) :
    P (judgePace p v s) := by
  unfold Machine.judgePace
  dsimp only
  split
  · next hpace =>
    obtain ⟨hdemand, htimer⟩ := paceJudged_kept p v (loadNumber s.ci) s.pu
    have h1 : P (s.withPu (paceJudged p v (loadNumber s.ci) s.pu)) :=
      h.aside (computed_sidestep (s := s) hread {
        demand := hdemand
        pace := paceLaw_paceJudged p v _
        sync := fun h0 => absurd (hpace.symm.trans h0) (by simp)
        timer := fun _ => htimer.trans }) hs
    exact h.aside (latchWhen_sidestep c _ _ _) (h.aside (latchWhen_sidestep c _ _ _) h1)
  · exact hs

theorem Kept.composeReport (h : Kept c P) (hread : IsRead c) {p : Plan} (hp : s.ps.plan = some p) (w : Word)
    (hs : P s) : P (composeReport p w s) := by
  unfold Machine.composeReport
  extract_lets r f e
  have h1 : P (Machine.compose f s) := h.aside (compose_sidestep c f s) hs
  refine h.aside (s := Machine.compose f s) (computed_sidestep hread ?_ (hpt := ?_)) h1
  · exact {
      table := fun h0 => absurd (hp.symm.trans (by simpa using h0)) (by simp)
      peers := by
        intro q hq _ hl
        obtain rfl : p = q := Option.some.inj (hp.symm.trans (by simpa using hq))
        exact tableLaw_ownReport (by simpa using hl) _ }
  · intro q hq j hj
    obtain rfl : p = q := Option.some.inj (hp.symm.trans (by simpa using hq))
    simpa using PeerTable.entry_setEntry_other _ _ hj

theorem Kept.publish (h : Kept c P) (hread : IsRead c) {p : Plan} (hp : s.ps.plan = some p) (v : LineView)
    (hs : P s) : P (publish p v s) := by
  have h1 : P (s.withPu { s.pu with sample := some (sampleOf v s), lifting := p.node :: v.peers.map (·.1) }) :=
    h.aside (computed_sidestep (s := s) hread {}) hs
  exact h.composeReport hread (by simpa using hp) _ h1

theorem Kept.checkSample (h : Kept c P) (hread : IsRead c) (p : Plan) (k : ControlSample) (hs : P s) :
    P (checkSample p k s) := by
  unfold Machine.checkSample
  extract_lets stall drift peer _ s1 s2 s3
  have h1 : P s1 := h.aside (computed_sidestep (s := s) hread {}) hs
  have h2 : P s2 := by
    simp only [s2]; split
    · exact h.trip _ _ _ (sideFits_none (by simp)) h1
    · exact h1
  have h3 : P s3 := by
    simp only [s3]; split
    · exact h.trip _ _ _ (sideFits_none (by simp)) h2
    · exact h2
  split
  · exact h.trip _ _ _ (sideFits_none (by simp)) h3
  · exact h3

theorem hasArrived_pacing {p : Plan} {s : State} {w : Word} (h : hasArrived p s w = true) :
    s.phc.phase = .lift ∨ s.phc.phase = .lower := by
  unfold hasArrived at h
  split at h
  · cases h
  · split at h <;> simp_all

theorem Kept.paceStages (h : Kept c P) (hread : IsRead c) {p : Plan} (hp : s.ps.plan = some p) (hs : P s) :
    P (paceStages p s) := by
  unfold Machine.paceStages
  extract_lets v s5 base s8
  have h5 : P s5 := h.judgePace hread p v hs
  have hp5 : s5.ps.plan = some p := by simpa [s5] using hp
  have h8 : P s8 ∧ s8.ps.plan = some p := by
    simp only [s8]; split
    · next ha => exact ⟨h.arrive (by simp [hp5]) (hasArrived_pacing ha) h5, by simpa using hp5⟩
    · exact ⟨h5, hp5⟩
  obtain ⟨h8, hp8⟩ := h8
  exact h.publish hread (by simpa using hp8) v (h.demand p _ _ _ hread hp8 (baseSpeed_le p s5 v.lift _) h8)

theorem Kept.computation (h : Kept c P) (hread : IsRead c) {p : Plan} (hp : s.ps.plan = some p) (hs : P s) :
    P (computation p s) := by
  have h1 := h.paceStages hread (s := Machine.retractCheck p s) (by simpa using hp) (h.retract p hp hs)
  unfold Machine.computation
  dsimp only
  split
  · exact h.start p hread (by simpa using hp) (h.checkSample hread p _ h1)
  · exact h1

/-! ### The control period and the position read -/

/-- The peers that fall silent trip one after the other (R33). -/
theorem Kept.fallSilent (h : Kept c P) (js : List NodeNum) (hs : P s) :
    P (js.foldl (fun t j => Machine.trip .peerSilent none (some j) t) s) := by
  induction js generalizing s with
  | nil => exact hs
  | cons j js ih => exact ih (h.trip _ _ _ (sideFits_none (by simp)) hs)

theorem Kept.agePeers (h : Kept c P) (hc : reachesTable c = true) (hread : ∀ a w b f, c ≠ .positionReadComplete a w b f)
    {p : Plan} (hp : s.ps.plan = some p) (hs : P s) : P (agePeers p s) := by
  refine h.fallSilent _ (h.aside (s := s) ?_ hs)
  exact {
    pt := by simp [hc]
    others := by rintro ⟨a, w, b, f, rfl⟩; exact absurd rfl (hread a w b f)
    table := fun h0 => absurd (hp.symm.trans h0) (by simp)
    peers := by
      intro q hq hk hl
      obtain rfl : p = q := Option.some.inj (hp.symm.trans hq)
      exact tableLaw_age hl }

theorem fallSilent_ps (js : List NodeNum) (s : State) :
    (js.foldl (fun t j => trip .peerSilent none (some j) t) s).ps = s.ps := by
  induction js generalizing s with
  | nil => rfl
  | cons j js ih => exact (ih _).trans (by simp)

theorem agePeers_ps (p : Plan) (s : State) : (agePeers p s).ps = s.ps := fallSilent_ps _ _

theorem Kept.advanceKeep (h : Kept c P) {p : Plan} (hp : s.ps.plan = some p) (hs : P s) :
    P (advanceKeep p s) := by
  unfold Machine.advanceKeep
  split
  · exact hs
  · next ss hss =>
    have h1 : P (s.withSu { s.su with session := some { ss with keep := ss.keep + 1 } }) :=
      h.aside (s := s) { session := .inr ⟨ss, _, hss, rfl⟩ } hs
    dsimp only
    split
    · exact h.ended _ (s := s.withSu _) (by simp [hp]) h1
    · exact h1

theorem Kept.composeKeep (h : Kept c P) (hs : P s) : P (composeKeep s) := by
  unfold Machine.composeKeep
  split
  · exact hs
  · split
    · exact h.aside (composeMotion_sidestep c _ s) hs
    · exact hs

theorem Kept.readStarts (h : Kept c P) (hc : reachesColumn c = true) (hs : P s) :
    P (s.withCi { s.ci with read := .inFlight }) :=
  h.aside (s := s) { ci := by simp [hc] } hs

theorem Kept.controlExpiry (h : Kept .controlPeriodExpiry P) {p : Plan} (hp : s.ps.plan = some p) (hs : P s) :
    P (controlExpiry p s) := by
  have h0 : P (s.withPu { s.pu with timer := some (periodTime p) }) :=
    h.aside (s := s) { timer := fun h0 => absurd (hp.symm.trans h0) (by simp) } hs
  have h1 : P (Machine.agePeers p (s.withPu { s.pu with timer := some (periodTime p) })) :=
    h.agePeers rfl (by simp) (by simpa using hp) h0
  have hp1 : (Machine.agePeers p (s.withPu { s.pu with timer := some (periodTime p) })).ps.plan = some p := by
    rw [agePeers_ps]; exact hp
  exact h.composeKeep (h.advanceKeep hp1 (h.readStarts rfl h1))

/-- A completed read touches height, read and the invalid-read run alone (R43, R44). -/
theorem takeRead_sidestep (hread : IsRead c) (v : Bool) (w d : Word) (s : State) :
    Sidestep c s (s.withCi (takeRead v w d s.ci)) := by
  obtain ⟨a, x, b, f, rfl⟩ := hread
  unfold takeRead
  split
  · exact {
      ci := fun hc => Bool.noConfusion hc
      runs := fun ⟨a, b, d, e, f, _, g⟩ => ⟨a, b, d, e, f, Nat.zero_le _, g⟩ }
  · exact {
      ci := fun hc => Bool.noConfusion hc
      runs := fun ⟨a, b, d, e, f, _, g⟩ => ⟨a, b, d, e, f, Nat.min_le_left _ _, g⟩ }

theorem Kept.readHandedOn (h : Kept c P) (hread : IsRead c) {p : Plan} (hp : s.ps.plan = some p) (v : Bool)
    (w : Word) (hs : P s) : P (readHandedOn p v w s) := by
  have h1 := h.aside (takeRead_sidestep hread v w p.datum s) hs
  unfold Machine.readHandedOn
  extract_lets s1 s2
  have h2 : P s2 ∧ s2.ps.plan = some p := by
    simp only [s2]
    split
    · exact ⟨h.noteValidRead (by simp [s1, hp]) h1, by simpa [s1] using hp⟩
    · split
      · exact ⟨h.trip _ _ _ (sideFits_none (by simp)) h1, by simpa [s1] using hp⟩
      · exact ⟨h1, hp⟩
  exact h.computation hread h2.2 h2.1

theorem Kept.readKept (h : Kept c P) (hread : IsRead c) (v : Bool) (w : Word) (hs : P s) :
    P (readKept v w s) := by
  unfold Machine.readKept
  split
  · exact h.aside (takeRead_sidestep hread v w _ s) hs
  · next hp =>
    have h1 := h.aside (takeRead_sidestep hread v w (Config.datumWithoutPlan s.freeCount) s) hs
    refine h.aside (s := s.withCi (takeRead v w (Config.datumWithoutPlan s.freeCount) s.ci)) ?_ h1
    exact { free := by
              rintro (hc | hc)
              · obtain ⟨a, x, b, f, rfl⟩ := hread
                exact absurd rfl (hc a x b f)
              · simp [hp] at hc }

theorem Kept.readComplete (h : Kept c P) (hread : IsRead c) (v : Bool) (w : Word) (hs : P s) :
    P (readComplete v w s) := by
  unfold Machine.readComplete
  split
  · exact hs
  · next hp => exact h.readHandedOn hread hp v w hs
  · exact h.readKept hread v w hs
  · exact h.readKept hread v w hs

/-! ### Lines and pendant -/

theorem Kept.driveStatusMoves (h : Kept c P) (hc : reachesColumn c = true) (d : DriveLine) (b : Bool)
    (hs : P s) : P (driveStatusMoves d b s) := by
  unfold Machine.driveStatusMoves
  extract_lets _ s1 ready _ s2
  have h1 : P s1 := h.aside (s := s) { ci := by simp [hc] } hs
  have h2 : P s2 := by
    simp only [s2]; split
    · exact h.aside (s := s1) { ci := by simp [hc] } h1
    · exact h1
  split
  · exact h.trip _ _ _ (sideFits_none (by simp)) h2
  · exact h2

/-- The press record moves to one that is not HELD (R81, R83, R84). -/
theorem withPress_sidestep (c : Instr) {s : State} (hp : s.ps.plan.isSome = true) {r : Press}
    (hr : ∀ k d q, r ≠ .held k d q) : Sidestep c s (s.withSu { s.su with press := r }) where
  press := .inr ⟨hp, hr⟩

theorem Kept.takePress (h : Kept c P) (hc : reachesSequence c = true) (hp : s.ps.plan.isSome = true)
    (d : Direction) (q : Preset) (hs : P s) : P (takePress d q s) := by
  unfold Machine.takePress
  split
  · exact h.aside (withPress_sidestep c hp (by simp)) hs
  · refine h.aside (composeMotion_sidestep c _ _) (h.aside (s := s) ?_ hs)
    exact { press := .inr ⟨hp, by simp⟩, sequence := by simp [hc] }

theorem Kept.takeRelease (h : Kept c P) (hp : s.ps.plan.isSome = true) (hs : P s) : P (takeRelease s) := by
  have h1 : P (s.withSu { s.su with press := .none }) := h.aside (withPress_sidestep c hp (by simp)) hs
  rcases takeRelease_cases s with ⟨k, d, q, -, e⟩ | ⟨-, e⟩ <;> rw [e]
  · exact h.aside (composeMotion_sidestep c _ _) h1
  · exact h1

theorem Kept.handDirection (h : Kept c P) (hc : reachesSequence c = true) (old new : Option Direction)
    (hs : P s) : P (handDirection old new s) := by
  unfold Machine.handDirection
  split
  · exact hs
  · next p hp =>
    change P (match new with
      | some d => Machine.takePress d (selectedPreset s.ci.levels) (afterRelease old s)
      | none => afterRelease old s)
    have h1 : P (afterRelease old s) := by
      unfold afterRelease; split
      · exact h.takeRelease (by simp [hp]) hs
      · exact hs
    have hp1 : (afterRelease old s).ps.plan.isSome = true := by
      rw [(afterRelease_releasedTo old s).ps, hp]; rfl
    split
    · exact h.takePress hc hp1 _ _ h1
    · exact h1

theorem pressOnStop_not_held (r : Press) : ∀ k d q, pressOnStop r ≠ .held k d q := by
  cases r <;> simp [pressOnStop]

theorem Kept.takeStop (h : Kept c P) (hp : s.ps.plan.isSome = true) (hs : P s) : P (takeStop s) := by
  unfold Machine.takeStop
  split
  · exact hs
  · split
    · exact h.aside (composeMotion_sidestep c _ _)
        (h.aside (withPress_sidestep c hp (pressOnStop_not_held _)) hs)
    · exact h.aside (composeMotion_sidestep c _ _) (h.aside (withPress_sidestep c hp (by simp)) hs)
    · exact hs
    · exact hs
    · exact hs

end walk

end Sys2Proof.Machine
end

section
/-! PROOFS. The walk through the commands, concluded: the service line, every command, and every step. -/

namespace Sys2Proof.Machine

open Sys2Proof Sys2Proof.Safety

set_option Elab.async false

section walk

variable {c : Instr} {P : State → Prop} {s : State}

/-! ### The service line -/

/-- The row of a command of the service line (R175). -/
def rowOf : ServiceCommand → Instr
  | .peek a => .peek a
  | .poke a v => .poke a v
  | .peekOn => .peekOn
  | .pokeOn v => .pokeOn v
  | .summary => .summary
  | .adopt => .adopt
  | .store => .store
  | .restart => .restart

/-- The command of the node carries a command of the service line: it is its row, or a byte that may be the last
of any (R173, R175). -/
def Carries (c : Instr) (k : ServiceCommand) : Prop :=
  c = rowOf k ∨ (∃ b, c = .unknownCommandCode b) ∨ ∃ b, c = .serviceByteReceived b

theorem Carries.line {k : ServiceCommand} (h : Carries c k) : reachesServiceLine c = true := by
  rcases h with rfl | ⟨b, rfl⟩ | ⟨b, rfl⟩
  · cases k <;> rfl
  · rfl
  · rfl

/-- What a command that carries one of `k` can reach is what the row of `k` and a single byte can reach. -/
theorem Carries.reach {k : ServiceCommand} (h : Carries c k) {reach : Instr → Bool}
    (hrow : reach (rowOf k) = true) (hcode : ∀ b, reach (.unknownCommandCode b) = true)
    (hbyte : ∀ b, reach (.serviceByteReceived b) = true) : reach c = true := by
  rcases h with rfl | ⟨b, rfl⟩ | ⟨b, rfl⟩
  · exact hrow
  · exact hcode b
  · exact hbyte b

/-- The Service Port moves, its mask aside. -/
theorem withSp_sidestep (hc : reachesServiceLine c = true) {b : ServicePort} (hm : b.mask = s.sp.mask) :
    Sidestep c s (s.withSp b) where
  sp h0 := absurd (hc.symm.trans h0) (by simp)
  mask _ := hm

theorem latchEvent_sidestep (c : Instr) (e : Event) (s : State) : Sidestep c s (latchEvent e s) where

/-- A service write into the image keeps it canonical and marks the plan unadopted (R169). -/
theorem writePlan_sidestep (hc : reachesPlanStore c = true) {a : Nat} (ha : a < 256) (v : Byte) (s : State) :
    Sidestep c s (writePlan a v s) := by
  rcases writePlan_cases a v s with ⟨-, e⟩ | ⟨-, e⟩ <;> rw [e]
  · exact {
      ps := by simp [hc]
      store := .inr ⟨rfl, rfl, fun h => Memory.write_wf h v ha⟩ }
  · exact latchEvent_sidestep c _ s

theorem writeAddress_sidestep (hline : reachesServiceLine c = true) (hmask : reachesMask c = true)
    (hstore : reachesPlanStore c = true) (a : Nat) (v : Byte) (s : State) :
    Sidestep c s (writeAddress a v s) := by
  have port (b : ServicePort) : Sidestep c s (s.withSp b) :=
    { sp := by simp [hline], mask := by simp [hmask] }
  unfold writeAddress
  split
  · next ha => exact writePlan_sidestep hstore ha v s
  · split
    · exact port _
    · split
      · exact port _
      · split
        · exact port _
        · split
          · exact port _
          · exact latchEvent_sidestep c _ s

theorem Kept.withPort (h : Kept c P) (hc : reachesServiceLine c = true) {b : ServicePort}
    (hm : b.mask = s.sp.mask) (hs : P s) : P (s.withSp b) :=
  h.aside (withSp_sidestep hc hm) hs

theorem Kept.act (h : Kept c P) {k : ServiceCommand} (hk : Carries c k) (hs : P s) :
    P (actCommand k s) := by
  have hline := hk.line
  have reply (bytes : List Byte) {t : State} (ht : P t) : P (withReply bytes t) :=
    h.withPort hline rfl ht
  have pointer (a : Word) {t : State} (ht : P t) : P (withPointer a t) := h.withPort hline rfl ht
  unfold actCommand
  split
  · exact reply _ hs
  · cases k with
    | peek a => exact reply _ (pointer a hs)
    | poke a v =>
      exact reply _ (h.aside (writeAddress_sidestep hline (hk.reach rfl (fun _ => rfl) fun _ => rfl)
        (hk.reach rfl (fun _ => rfl) fun _ => rfl) _ v _) (pointer a hs))
    | peekOn => exact h.withPort hline rfl (reply _ (pointer _ hs))
    | pokeOn v =>
      exact reply _ (h.aside (writeAddress_sidestep hline (hk.reach rfl (fun _ => rfl) fun _ => rfl)
        (hk.reach rfl (fun _ => rfl) fun _ => rfl) _ v _) (pointer _ hs))
    | summary => exact reply _ hs
    | adopt =>
      dsimp only
      unfold doAdopt
      split
      · next hperm =>
        exact reply _ (h.adopt s.ps.image s.ps.op (hk.reach rfl (fun _ => rfl) fun _ => rfl) (.inl hperm)
          (.inl rfl) hs)
      · exact reply _ hs
    | store =>
      have hstore : reachesPlanStore c = true := hk.reach rfl (fun _ => rfl) fun _ => rfl
      dsimp only
      unfold doStore
      split
      · exact reply _ (h.aside (s := s) { ps := by simp [hstore] } hs)
      · exact reply _ hs
    | restart => exact h.reset (hk.reach rfl (fun _ => rfl) fun _ => rfl) hs

theorem Kept.echo (h : Kept c P) (hc : reachesServiceLine c = true) (b : Byte) (q : List Byte) (hs : P s) :
    P (echoByte b q s) :=
  h.withPort hc rfl hs

theorem Kept.receiveByte (h : Kept c P) (hany : ∀ k, Carries c k) (b : Byte) (hs : P s) :
    P (receiveByte b s) := by
  have hline := (hany .summary).line
  rcases receiveByte_cases b s with e | ⟨q, e⟩ | ⟨k, e⟩ <;> rw [e]
  · exact hs
  · exact h.echo hline b q hs
  · exact h.act (hany k) (h.echo hline b [] hs)

theorem Kept.wholeCommand (k : ServiceCommand) (h : Kept (rowOf k) P) (hs : P s) :
    P (wholeCommand k s) := by
  have hk : Carries (rowOf k) k := .inl rfl
  rcases wholeCommand_cases k s with e | ⟨b, e⟩ <;> rw [e]
  · exact hs
  · exact h.act hk (h.echo hk.line b [] hs)

/-! ### The lines and timers that are no operation of their own -/

/-- The filtered levels, the held direction and the hold timer move (R54 to R57). -/
theorem withLevels_sidestep (hc : reachesColumn c = true) (s : State) (l : FilteredLevels) (settled : Bool)
    (held : Option Direction) (hold : Option Nat) :
    Sidestep c s (s.withCi { s.ci with levels := l, inputsSettled := settled, held := held, holdTimer := hold }) where
  ci h0 := absurd (hc.symm.trans h0) (by simp)

theorem demandTransfer_sidestep {w : DemandWord} (hw : s.ci.transfer = some w) :
    Sidestep .demandTransferComplete s (s.withCi
      { s.ci with lastWord := w.value, transfer := s.ci.nextWord, nextWord := none }) where
  ci h0 := Bool.noConfusion h0
  words := {
    old := fun d hd => .inr (by simpa using hd)
    behind := fun _ _ => rfl
    held := by simp only [heldValue, State.withCi_ci, hw]; cases s.ci.nextWord <;> rfl }

theorem Kept.loadSample (n : Nat) (w : Word) (h : Kept (.loadSample n w) P) (hs : P s) :
    ∃ t, exec (.loadSample n w) s = .next t ∧ P t := by
  refine ⟨_, rfl, ?_⟩
  split
  · split
    · next hp => exact h.loadArrives rfl hp w hs
    · exact h.aside (s := s) { ci := fun h0 => Bool.noConfusion h0 } hs
  · exact hs

theorem Kept.silenceExpiry (h : Kept .loadSilenceExpiry P) (hs : P s) :
    ∃ t, exec .loadSilenceExpiry s = .next t ∧ P t := by
  refine ⟨_, rfl, ?_⟩
  split
  · next n hn =>
    have h1 : P (s.withCi { s.ci with loadSilent := true, loadTimer := none }) :=
      h.aside (s := s) {
        ci := fun h0 => Bool.noConfusion h0
        silence := fun _ h0 => absurd (hn.symm.trans h0) (by simp) } hs
    exact h.trip _ _ _ (sideFits_none (by simp)) h1
  · exact hs

theorem Kept.inputsSettle (l : LineLevels) (h : Kept (.inputsSettled l) P) (hs : P s) :
    ∃ t, exec (.inputsSettled l) s = .next t ∧ P t := by
  refine ⟨_, rfl, ?_⟩
  split
  · exact hs
  · dsimp only
    have h1 := h.aside (withLevels_sidestep rfl s (settleLevels s.ci.levels l) true
      (heldOf (settleLevels s.ci.levels l).up (settleLevels s.ci.levels l).down) s.ci.holdTimer) hs
    split
    · exact h.aside (s := State.withCi s _) { ps := fun h0 => Bool.noConfusion h0 } h1
    · exact h1

theorem Kept.switchChange (d : SafetyLine) (b : Bool) (h : Kept (.switchChange d b) P) (hs : P s) :
    ∃ t, exec (.switchChange d b) s = .next t ∧ P t := by
  have h1 := h.aside (withLevels_sidestep rfl s (withSafetyLevel s.ci.levels d b) s.ci.inputsSettled
    s.ci.held s.ci.holdTimer) hs
  refine ⟨_, rfl, ?_⟩
  split
  · exact h1
  · split
    · exact hs
    · exact h.tripAll (fun x hx => switchCauses_fit _ _ x (List.mem_of_mem_filter hx)) h1

theorem Kept.driveChange (d : DriveLine) (b : Bool) (h : Kept (.driveStatusChange d b) P) (hs : P s) :
    ∃ t, exec (.driveStatusChange d b) s = .next t ∧ P t := by
  refine ⟨_, rfl, ?_⟩
  split
  · exact h.aside (withLevels_sidestep rfl s (withDriveLevel s.ci.levels d b) s.ci.inputsSettled
      s.ci.held s.ci.holdTimer) hs
  · split
    · exact hs
    · exact h.driveStatusMoves rfl d b hs

theorem Kept.heldChange (u d : Bool) (q : BitVec 3) (h : Kept (.heldDirectionChange u d q) P) (hs : P s) :
    ∃ t, exec (.heldDirectionChange u d q) s = .next t ∧ P t := by
  have h1 := h.aside (withLevels_sidestep rfl s (withPendant s.ci.levels u d q) s.ci.inputsSettled
    (heldOf (withPendant s.ci.levels u d q).up (withPendant s.ci.levels u d q).down) s.ci.holdTimer) hs
  refine ⟨_, rfl, ?_⟩
  dsimp only
  split
  · exact h1
  · exact h.handDirection rfl _ _ h1

theorem Kept.stopChange (b : Bool) (h : Kept (.stopPress b) P) (hs : P s) :
    ∃ t, exec (.stopPress b) s = .next t ∧ P t := by
  have h1 := h.aside (withLevels_sidestep rfl s { s.ci.levels with stop := some b } s.ci.inputsSettled
    s.ci.held s.ci.holdTimer) hs
  refine ⟨_, rfl, ?_⟩
  dsimp only
  split
  · next hc => exact h.takeStop (s := State.withCi s _) hc.2.2 h1
  · exact h1

theorem Kept.resetHeld (h : Kept .resetRequestHoldExpiry P) (hs : P s) :
    ∃ t, exec .resetRequestHoldExpiry s = .next t ∧ P t := by
  refine ⟨_, rfl, ?_⟩
  split
  · have h1 := h.aside (withLevels_sidestep rfl s s.ci.levels s.ci.inputsSettled s.ci.held none) hs
    dsimp only
    split
    · exact h.aside (compose_sidestep _ _ _) h1
    · exact h1
  · exact hs

theorem Kept.contactExpiry (h : Kept .contactTimeout P) (hs : P s) :
    ∃ t, exec .contactTimeout s = .next t ∧ P t := by
  refine ⟨_, rfl, ?_⟩
  split
  · have h1 : P (s.withPhc { s.phc with contactTimer := none }) :=
      h.aside (s := s) { contactTimer := fun _ => rfl } hs
    exact h.trip _ _ _ (sideFits_none (by simp)) h1
  · exact hs

/-! ### Every command and every step -/

/-- What every shared operation keeps, every command keeps. -/
theorem exec_kept (c : Instr) (h : Kept c P) (hs : P s) : ∃ t, exec c s = .next t ∧ P t := by
  have frame {f : Frame} (e : c = Safety.commandOf f) : P (frameEnds f s) := h.frameEnds (.inr (.inr e)) hs
  have hread {a w b f} (e : c = .positionReadComplete a w b f) : IsRead c := ⟨a, w, b, f, e⟩
  cases c with
  | reset => exact ⟨_, rfl, h.reset rfl hs⟩
  | idleEvent rest => exact ⟨_, rfl, h.idleEvent hs⟩
  | lineBecomesBusy =>
    refine ⟨_, rfl, ?_⟩
    split
    · exact hs
    · exact h.aside (withLau_sidestep _ fun _ ⟨hu, hn, ht, _⟩ => ⟨hu, hn, ht, rfl⟩) hs
  | deferralRunsOut =>
    refine ⟨_, rfl, ?_⟩
    split
    · next hcond =>
      have hp : s.ps.plan.isSome = true := (Bool.and_eq_true_iff.1 hcond).2
      exact h.aside (withLau_sidestep _ fun h0 _ => by simp [h0] at hp) hs
    · exact hs
  | collision i b => exact ⟨_, rfl, h.collision i b hs⟩
  | transmissionComplete =>
    refine ⟨_, rfl, ?_⟩
    split
    · next q ht => exact h.transmissionDone (.inr (.inl rfl)) (by simp [ht]) hs
    · exact hs
  | report n e r => exact ⟨_, rfl, frame rfl⟩
  | startUp n e q p => exact ⟨_, rfl, frame rfl⟩
  | startDown n e q p => exact ⟨_, rfl, frame rfl⟩
  | keepUp n e q p => exact ⟨_, rfl, frame rfl⟩
  | keepDown n e q p => exact ⟨_, rfl, frame rfl⟩
  | endSession n e k => exact ⟨_, rfl, frame rfl⟩
  | halt n e b => exact ⟨_, rfl, frame rfl⟩
  | clear n e => exact ⟨_, rfl, frame rfl⟩
  | controlPeriodExpiry =>
    refine ⟨_, rfl, ?_⟩
    split
    · next hp _ => exact h.controlExpiry hp hs
    · exact hs
    · exact hs
  | positionReadComplete a w b f => exact ⟨_, rfl, h.readComplete (hread rfl) _ w hs⟩
  | loadSample n w => exact h.loadSample n w hs
  | loadSilenceExpiry => exact h.silenceExpiry hs
  | demandTransferComplete =>
    refine ⟨_, rfl, ?_⟩
    split
    · next hw => exact h.aside (demandTransfer_sidestep hw) hs
    · exact hs
  | inputsSettled l => exact h.inputsSettle l hs
  | switchChange d b => exact h.switchChange d b hs
  | driveStatusChange d b => exact h.driveChange d b hs
  | heldDirectionChange u d q => exact h.heldChange u d q hs
  | stopPress b => exact h.stopChange b hs
  | resetReqChange b =>
    exact ⟨_, rfl, h.aside (withLevels_sidestep rfl s { s.ci.levels with resetReq := some b }
      s.ci.inputsSettled s.ci.held _) hs⟩
  | resetRequestHoldExpiry => exact h.resetHeld hs
  | contactTimeout => exact h.contactExpiry hs
  | loadComplete bytes =>
    refine ⟨_, rfl, ?_⟩
    split
    · exact h.adopt _ _ rfl (.inr ⟨bytes, rfl⟩) (.inr (Memory.ofLoad_wf bytes)) hs
    · exact hs
  | loadNoMemory =>
    refine ⟨_, rfl, ?_⟩
    split
    · exact h.aside (s := s) { ps := fun h0 => Bool.noConfusion h0 } hs
    · exact hs
  | storeComplete bytes =>
    refine ⟨_, rfl, ?_⟩
    split
    · exact h.aside (s := s)
        { ps := fun h0 => Bool.noConfusion h0, sp := fun h0 => Bool.noConfusion h0 } hs
    · exact hs
  | storeReplySent =>
    refine ⟨_, rfl, ?_⟩
    split
    · split
      · exact h.withPort rfl rfl hs
      · exact hs
    · exact hs
  | peek a => exact ⟨_, rfl, h.wholeCommand (.peek a) hs⟩
  | poke a v => exact ⟨_, rfl, h.wholeCommand (.poke a v) hs⟩
  | peekOn => exact ⟨_, rfl, h.wholeCommand .peekOn hs⟩
  | pokeOn v => exact ⟨_, rfl, h.wholeCommand (.pokeOn v) hs⟩
  | summary => exact ⟨_, rfl, h.wholeCommand .summary hs⟩
  | adopt => exact ⟨_, rfl, h.wholeCommand .adopt hs⟩
  | store => exact ⟨_, rfl, h.wholeCommand .store hs⟩
  | restart => exact ⟨_, rfl, h.wholeCommand .restart hs⟩
  | unknownCommandCode b => exact ⟨_, rfl, h.receiveByte (fun _ => .inr (.inl ⟨b, rfl⟩)) b hs⟩
  | framingError =>
    refine ⟨_, rfl, ?_⟩
    split
    · exact hs
    · exact h.withPort rfl rfl hs
  | lineBreak n => exact ⟨_, rfl, h.withPort rfl rfl hs⟩
  | breakEcho => exact ⟨_, rfl, h.withPort rfl rfl hs⟩
  | serviceByteReceived b => exact ⟨_, rfl, h.receiveByte (fun _ => .inr (.inr ⟨b, rfl⟩)) b hs⟩

/-- An idle slot runs timers down and counts the deferral (R12, R13). -/
theorem idleSlot_aside (s : State) : Aside s (idleSlot s) where
  contactTimer h := by simp [idleSlot, runDown, h]
  silence _ h := by simp [idleSlot, runDown, h]
  timer _ h := by simp [idleSlot, runDown, h]
  lanes := by
    rintro - ⟨hu, hn, ht, hd⟩
    unfold idleSlot
    dsimp only
    split <;> simp [LanesEmpty, hu, hn, ht, hd]

theorem withPending_aside (s : State) (q : List Instr) : Aside s (s.withPending q) where

/-- What every aside and, under every command, every shared operation keeps, every step keeps. -/
theorem step_kept (haside : ∀ {s t : State}, Aside s t → P s → P t) (h : ∀ c, Kept c P) (hs : P s) :
    ∃ t, step s = .next t ∧ P t := by
  unfold step
  split
  · exact ⟨_, rfl, haside (idleSlot_aside s) hs⟩
  · exact exec_kept _ (h _) (haside (withPending_aside s _) hs)

/-- The step's result is the one it was shown for. -/
theorem step_kept_of_next (haside : ∀ {s t : State}, Aside s t → P s → P t) (h : ∀ c, Kept c P)
    {t : State} (ht : step s = .next t) (hs : P s) : P t := by
  obtain ⟨t', ht', hP⟩ := step_kept haside h hs
  obtain rfl : t' = t := Host.Outcome.next.inj (ht'.symm.trans ht)
  exact hP

end walk

end Sys2Proof.Machine
end

section
/-! PROOFS. Two ways to a law that every command keeps: a law that does not tie the session to the phase, and one
that each elementary change keeps. -/

namespace Sys2Proof.Machine

open Sys2Proof Sys2Proof.Safety

section laws

variable {c : Instr} {P : State → Prop} {s : State}

/-! ### Laws that do not speak of the session -/

/-- Under a command `c` a predicate is kept by halts, clears, adoption and reset, by any change of the session
and by any change between phases that are neither UNPLANNED nor HALTED. -/
structure Loose (c : Instr) (P : State → Prop) : Prop where
  aside {s t : State} : Sidestep c s t → P s → P t
  trip {s : State} (k : Cause) (d : Option TravelSide) (n : Option NodeNum) :
    (d.isSome = true ↔ k = .travelLimit) → P s → P (trip k d n s)
  remote {s : State} (k : Cause) (n : NodeNum) (w : Word) (q : Option NodeNum) :
    s.ps.plan.isSome = true → isHalted s = false → P s → P (remoteHalt k n w q s)
  clear {s : State} (e : Byte) : clears c = true → P s → P (takeClear e s)
  demand {s : State} (p : Plan) (v e : Nat) (k : Step) : IsRead c →
    s.ps.plan = some p → v ≤ speedOf p k → P s → P (giveDemand (demandOf p s v e) s)
  adopt {s : State} (m : Memory) (o : StoreOperation) : reachesAll c = true →
    (planPermitted s = true ∨ ∃ bytes, c = .loadComplete bytes) → (m = s.ps.image ∨ m.wf = true) →
    P s → P (adoption (s.withPs { s.ps with image := m, op := o }))
  reset {s : State} : resets c = true → P s → P (resetNode s)
  session {s : State} (b : SessionUnit) : s.ps.plan.isSome = true → b.sequence = s.su.sequence → P s →
    P (s.withSu b)
  phase {s : State} (new : Phase) : s.ps.plan.isSome = true → s.phc.phase ≠ .halted →
    s.phc.phase ≠ .unplanned → new ≠ .halted → new ≠ .unplanned → P s → P (changePhase new s)

theorem setLastStop_sidestep (c : Instr) (k : StopCause) (s : State) : Sidestep c s (setLastStop k s) where

theorem contactHeight_sidestep (c : Instr) (h : Option Word) (s : State) :
    Sidestep c s (s.withCi { s.ci with contactHeight := h }) where

theorem composeEndOf_sidestep (c : Instr) (r : Press) (s : State) : Sidestep c s (composeEndOf r s) := by
  unfold composeEndOf
  split
  · exact composeMotion_sidestep c _ s
  · exact {}

/-- An accepted session moves IDLE to APPROACH, HOLD to CONTACT, and no other phase (R66). -/
theorem tellAccepted_cases (d : Direction) (s : State) :
    tellAccepted d s = s
      ∨ (d = .up ∧ s.phc.phase = .idle ∧ tellAccepted d s = changePhase .approach s)
      ∨ (d = .up ∧ s.phc.phase = .hold ∧ tellAccepted d s = changePhase .contact s) := by
  unfold tellAccepted phaseOnAccept
  split <;> rename_i h
  · split at h
    · next hph =>
      split at h
      · obtain rfl := Option.some.inj h; exact .inr (.inl ⟨rfl, hph, rfl⟩)
      · cases h
    · next hph => obtain rfl := Option.some.inj h; exact .inr (.inr ⟨rfl, hph, rfl⟩)
    · cases h
  · exact .inl rfl

theorem Loose.accepted (h : Loose c P) (d : Direction) (hp : s.ps.plan.isSome = true) (hs : P s) :
    P (tellAccepted d s) := by
  rcases tellAccepted_cases d s with e | ⟨-, hph, e⟩ | ⟨-, hph, e⟩ <;> rw [e]
  · exact hs
  · exact h.phase _ hp (by simp [hph]) (by simp [hph]) (by simp) (by simp) hs
  · exact h.phase _ hp (by simp [hph]) (by simp [hph]) (by simp) (by simp) hs

/-- A session's end leaves STARTING, HALTED and UNPLANNED as they are, and else leads to IDLE or HOLD (R73). -/
theorem phaseOnEnd_cases (ph : Phase) :
    phaseOnEnd ph = ph ∨ (ph ≠ .halted ∧ ph ≠ .unplanned ∧ (phaseOnEnd ph = .idle ∨ phaseOnEnd ph = .hold)) := by
  cases ph <;> simp [phaseOnEnd]

theorem Loose.told (h : Loose c P) (k : StopCause) (st : SessionState) (hp : s.ps.plan.isSome = true)
    (hs : P s) : P (tellEnded k st s) := by
  have h1 : P (if endIsRecorded s.phc.phase st then setLastStop k s else s) := by
    split
    · exact h.aside (setLastStop_sidestep c k s) hs
    · exact hs
  unfold tellEnded
  generalize ht : (if endIsRecorded s.phc.phase st then setLastStop k s else s) = t at h1
  have hph : t.phc.phase = s.phc.phase := by rw [← ht]; split <;> rfl
  have hpt : t.ps.plan.isSome = true := by rw [← ht]; split <;> exact hp
  rcases phaseOnEnd_cases s.phc.phase with e | ⟨hhalted, hunplanned, hnew⟩
  · rw [e, ← hph, changePhase_same]; exact h1
  · have hidle : phaseOnEnd s.phc.phase ≠ .halted ∧ phaseOnEnd s.phc.phase ≠ .unplanned := by
      rcases hnew with e | e <;> simp [e]
    exact h.phase _ hpt (hph ▸ hhalted) (hph ▸ hunplanned) hidle.1 hidle.2 h1

theorem Loose.ended (h : Loose c P) (k : StopCause) (hp : s.ps.plan.isSome = true) (hs : P s) :
    P (endSession k s) := by
  cases hss : s.su.session with
  | none => rw [endSession_none k hss]; exact hs
  | some ss =>
    rw [endSession_some hss]
    refine h.told _ _ (by simpa using hp) ?_
    have h1 := h.session { s.su with session := none, press := pressOnEnd k ss.token s.su.press } hp rfl hs
    unfold recordEnded
    dsimp only
    split
    · exact h.aside (composeEndOf_sidestep c _ _) h1
    · exact h1

theorem tellStarted_cases (p : Plan) (d : Direction) (s : State) :
    tellStarted p d s = s ∨ tellStarted p d s = setLastStop .arrived s
      ∨ ((s.phc.phase = .contact ∨ s.phc.phase = .hold ∨ s.phc.phase = .idle)
        ∧ ((d = .up ∧ s.phc.phase = .contact ∧ tellStarted p d s = changePhase .lift s)
          ∨ (d = .down ∧ s.phc.phase = .hold ∧ tellStarted p d s = changePhase .lower s)
          ∨ (d = .down ∧ s.phc.phase = .idle ∧ tellStarted p d s = changePhase .retract s))) := by
  unfold tellStarted
  split
  · next hph => exact .inr (.inr ⟨.inl hph, .inl ⟨rfl, hph, rfl⟩⟩)
  · next hph => exact .inr (.inr ⟨.inr (.inl hph), .inr (.inl ⟨rfl, hph, rfl⟩)⟩)
  · next hph =>
    split
    · exact .inr (.inr ⟨.inr (.inr hph), .inr (.inr ⟨rfl, hph, rfl⟩)⟩)
    · exact .inr (.inl rfl)
  · exact .inl rfl

theorem Loose.startTold (h : Loose c P) (p : Plan) (d : Direction) (hp : s.ps.plan.isSome = true) (hs : P s) :
    P (tellStarted p d s) := by
  rcases tellStarted_cases p d s with e | e | ⟨hph, hnew⟩
  · rw [e]; exact hs
  · rw [e]; exact h.aside (setLastStop_sidestep c _ s) hs
  · have hne : s.phc.phase ≠ .halted ∧ s.phc.phase ≠ .unplanned := by rcases hph with e | e | e <;> simp [e]
    rcases hnew with ⟨-, -, e⟩ | ⟨-, -, e⟩ | ⟨-, -, e⟩ <;> rw [e] <;>
      exact h.phase _ hp hne.1 hne.2 (by simp) (by simp) hs

/-- What is kept so loosely is kept by every shared operation. -/
theorem Loose.kept (h : Loose c P) : Kept c P where
  aside := h.aside
  trip := h.trip
  remote := h.remote
  accept _ d _ _ hp _ hs := h.accepted d hp (h.session _ hp rfl hs)
  pending {s} hp hs := by
    unfold applyPending
    split
    · split
      · exact h.accepted _ hp hs
      · exact hs
    · exact hs
  ended k hp hs := h.ended k hp hs
  clear := h.clear
  started hp hph hs := h.phase _ hp (by simp [hph]) (by simp [hph]) (by simp) (by simp) hs
  contact {s} hp hs := by
    unfold contactMade
    split
    · next hph =>
      exact h.phase (s := s.withCi _) _ hp (by simp [hph.1]) (by simp [hph.1]) (by simp) (by simp)
        (h.aside (contactHeight_sidestep c _ s) hs)
    · exact hs
  unloaded {s} p hp hs := by
    unfold unloaded
    split
    · next hph => exact h.phase _ (by simp [hp]) (by simp [hph.1]) (by simp [hph.1]) (by simp) (by simp) hs
    · exact hs
  arrive {s} hp hph hs := by
    have hne : s.phc.phase ≠ .halted ∧ s.phc.phase ≠ .unplanned := by rcases hph with e | e <;> simp [e]
    exact h.phase (s := setLastStop .arrived s) _ hp hne.1 hne.2 (by simp) (by simp)
      (h.aside (setLastStop_sidestep c _ s) hs)
  start {s} p _ hp hs := by
    rcases startCondition_cases p s with e | ⟨ss, -, -, -, -, -, e⟩ <;> rw [e]
    · exact hs
    · exact h.startTold (s := s.withSu _) p _ (by simp [hp]) (h.session _ (by simp [hp]) rfl hs)
  retract {s} p hp hs := by
    unfold retractCheck
    split
    · next hph =>
      exact h.phase (s := setLastStop .arrived s) _ (by simp [hp]) (by simp [setLastStop, hph.1])
        (by simp [setLastStop, hph.1]) (by simp) (by simp) (h.aside (setLastStop_sidestep c _ s) hs)
    · exact hs
  demand := h.demand
  adopt := h.adopt
  reset := h.reset

/-! ### Changes of phase -/

/-- Under a command `c` a predicate is kept by what a change of phase brings beside the new phase itself: trips,
the drive lines and a contact height that becomes invalid (R49, R52, R53, R62). -/
structure Moves (c : Instr) (P : State → Prop) : Prop where
  aside {s t : State} : Sidestep c s t → P s → P t
  trip {s : State} (k : Cause) (d : Option TravelSide) (n : Option NodeNum) :
    (d.isSome = true ↔ k = .travelLimit) → P s → P (trip k d n s)
  safe {s : State} : P s → P (safeDrive s)
  drive {s : State} (b : Bool) : P s → P (s.withCi (setDrive b s.ci))

theorem Moves.tripAll (h : Moves c P) {xs : List (Cause × Option TravelSide)} (hx : ∀ x ∈ xs, SideFits x)
    (hs : P s) : P (tripAll xs s) := by
  induction xs generalizing s with
  | nil => exact hs
  | cons x xs ih =>
    exact ih (fun y hy => hx y (List.mem_cons_of_mem x hy)) (h.trip _ _ _ (hx x List.mem_cons_self) hs)

theorem Moves.columnAt (h : Moves c P) (old new : Phase) (hs : P s) : P (columnAt old new s) := by
  have h1 : P (if new = .retract then s.withCi { s.ci with contactHeight := none } else s) := by
    split
    · exact h.aside (contactHeight_sidestep c _ s) hs
    · exact hs
  unfold Machine.columnAt
  generalize (if new = .retract then s.withCi { s.ci with contactHeight := none } else s) = t at h1
  dsimp only
  split
  · split
    · exact h.trip (s := t.withCi _) _ _ _ (sideFits_none (by simp)) (h.aside (s := t) {} h1)
    · split
      · exact h1
      · exact h.drive true h1
  · split
    · exact h.safe h1
    · exact h1

/-- A phase that is entered with the law, or is held already with the law, is changed to with it. -/
theorem Moves.entered (h : Moves c P) (new : Phase) (hsame : s.phc.phase = new → P s)
    (henter : P (enterPhase new s)) : P (changePhase new s) := by
  unfold Machine.changePhase
  split
  · next hph => exact hsame hph
  · have h1 := h.columnAt s.phc.phase new henter
    dsimp only
    split
    · refine h.tripAll (fun x hx => ?_) h1
      rcases List.mem_append.1 hx with hx | hx
      · exact switchCauses_fit _ _ x hx
      · exact loadCauses_fit _ x hx
    · exact h1

/-! ### Laws that each elementary change keeps -/

/-- Under a command `c` a predicate is kept by each change that halts, clears and changes of phase are made of. -/
structure Elementary (c : Instr) (P : State → Prop) : Prop where
  aside {s t : State} : Sidestep c s t → P s → P t
  record {s : State} (r : Option HaltRecord) : P s → P (s.withTm { s.tm with record := r })
  flags {s : State} (f : BitVec 16) (d : Option TravelSide) : P s →
    P (s.withTm { s.tm with flags := f, travelSide := d })
  safe {s : State} : P s → P (safeDrive s)
  drive {s : State} (b : Bool) : P s → P (s.withCi (setDrive b s.ci))
  enter {s : State} (new : Phase) : s.ps.plan.isSome = true → new ≠ .unplanned → P s → P (enterPhase new s)
  session {s : State} (b : SessionUnit) : s.ps.plan.isSome = true → b.sequence = s.su.sequence → P s →
    P (s.withSu b)

theorem Elementary.setFlag (h : Elementary c P) (k : Cause) (d : Option TravelSide) (hs : P s) : P (setFlag k d s) :=
  h.flags _ _ hs

theorem Elementary.foldFlags (h : Elementary c P) (xs : List (Cause × Option TravelSide)) (hs : P s) :
    P (xs.foldl (fun t x => Machine.setFlag x.1 x.2 t) s) := by
  induction xs generalizing s with
  | nil => exact hs
  | cons x xs ih => exact ih (h.setFlag _ _ hs)

theorem Elementary.halted (h : Elementary c P) (r : HaltRecord) (hp : s.ps.plan.isSome = true) (hs : P s) :
    P (applyHalt r s) := by
  have h1 : P (haltOrder (s.withTm { s.tm with record := some r })) := by
    have h0 := h.safe (h.record (some r) hs)
    unfold haltOrder
    dsimp only
    split
    · exact h0
    · exact h.foldFlags _ (h.enter _ (by simpa using hp) (by simp) h0)
  exact h.aside (latchEvent_sidestep c _ _) (h.aside (composeEndOf_sidestep c _ _)
    (h.session _ (by simpa using hp) rfl h1))

theorem Elementary.localHalt (h : Elementary c P) (k : Cause) (n : Option NodeNum) (hp : s.ps.plan.isSome = true)
    (hs : P s) : P (localHalt k n s) :=
  h.halted _ (by simpa using hp) (h.aside (compose_sidestep c _ s) hs)

theorem Elementary.trip (h : Elementary c P) (k : Cause) (d : Option TravelSide) (n : Option NodeNum) (hs : P s) :
    P (trip k d n s) := by
  rcases trip_cases k d n s with ⟨-, e⟩ | ⟨-, -, e⟩ | ⟨hp, -, e⟩ <;> rw [e]
  · exact hs
  · exact h.setFlag k d hs
  · exact h.localHalt k n (by simpa using hp) (h.setFlag k d hs)

theorem Elementary.moves (h : Elementary c P) : Moves c P where
  aside := h.aside
  trip k d n _ := h.trip k d n
  safe := h.safe
  drive := h.drive

theorem Elementary.phase (h : Elementary c P) (new : Phase) (hp : s.ps.plan.isSome = true)
    (hnew : new ≠ .unplanned) (hs : P s) : P (changePhase new s) :=
  h.moves.entered new (fun _ => hs) (h.enter new hp hnew hs)

theorem tableLaw_markStale {p : Plan} {t : PeerTable} (h : TableLaw p t) : TableLaw p t.markStale := by
  obtain ⟨hs, hm, he, hl⟩ := h
  refine ⟨fun j => ?_, fun j hj => ?_, fun j => ?_, hl⟩
  · rw [PeerTable.entry_markStale]; exact hs j
  · rw [PeerTable.entry_markStale]; exact hm j hj
  · rw [PeerTable.entry_markStale]; exact he j

/-- Every command that can clear can change the table and the epoch. -/
theorem clears_reaches (hc : clears c = true) : reachesTable c = true ∧ reachesEpoch c = true := by
  unfold clears at hc
  split at hc
  · exact ⟨rfl, rfl⟩
  · exact ⟨rfl, rfl⟩
  · exact ⟨rfl, rfl⟩
  · exact ⟨rfl, rfl⟩
  · cases hc

/-- A clear gives the epoch and marks every entry's halt news as out of date (R35, R152). -/
theorem epochGiven_sidestep (hc : clears c = true) (hp : s.ps.plan.isSome = true) (e : Byte) :
    Sidestep c s ((s.withTm { s.tm with epoch := some e }).withPt s.pt.markStale) := by
  obtain ⟨ht, he⟩ := clears_reaches hc
  have hread : ¬ IsRead c := by rintro ⟨a, w, b, f, rfl⟩; exact Bool.noConfusion hc
  exact {
    pt := by simp [ht]
    epoch := by simp [he]
    others := fun h => absurd h hread
    table := fun h0 => by simp [h0] at hp
    peers := fun _ _ _ => tableLaw_markStale }

theorem resolveReference_sidestep (c : Instr) (p : Plan) (b : Bool) (s : State) :
    Sidestep c s (resolveReference p b s) := by
  unfold resolveReference
  split
  · split
    · exact contactHeight_sidestep c _ s
    · exact {}
  · exact {}

theorem Elementary.clearSteps (h : Elementary c P) (hc : clears c = true) (p : Plan) (hp : s.ps.plan.isSome = true)
    (e : Byte) (hs : P s) : P (clearSteps p e s) := by
  have h0 := h.record none hs
  have h1 := h.aside (epochGiven_sidestep (s := s.withTm { s.tm with record := none }) hc hp e) h0
  exact h.flags _ _ (h.aside (resolveReference_sidestep c p (isHalted s) _) h1)

/-- A cleared node enters STARTING, HOLD or IDLE (R78). -/
theorem phaseOnClear_cases (s : State) :
    phaseOnClear s = .starting ∨ phaseOnClear s = .hold ∨ phaseOnClear s = .idle := by
  unfold phaseOnClear
  split
  · split <;> simp
  · simp

theorem phaseOnClear_ne (s : State) : phaseOnClear s ≠ .unplanned ∧ phaseOnClear s ≠ .halted := by
  rcases phaseOnClear_cases s with e | e | e <;> simp [e]

theorem Elementary.accepted (h : Elementary c P) (d : Direction) (hp : s.ps.plan.isSome = true) (hs : P s) :
    P (tellAccepted d s) := by
  rcases tellAccepted_cases d s with e | ⟨-, -, e⟩ | ⟨-, -, e⟩ <;> rw [e]
  · exact hs
  · exact h.phase _ hp (by simp) hs
  · exact h.phase _ hp (by simp) hs

theorem Elementary.pending (h : Elementary c P) (hp : s.ps.plan.isSome = true) (hs : P s) : P (applyPending s) := by
  unfold applyPending
  split
  · split
    · exact h.accepted _ hp hs
    · exact hs
  · exact hs

theorem Elementary.cleared (h : Elementary c P) (hp : s.ps.plan.isSome = true) (hs : P s) : P (reportCleared s) :=
  h.pending (by simpa using hp)
    (h.phase _ (by simpa using hp) (phaseOnClear_ne s).1 (h.aside (latchEvent_sidestep c _ s) hs))

theorem Elementary.clear (h : Elementary c P) (hc : clears c = true) (e : Byte) (hs : P s) : P (takeClear e s) := by
  rcases takeClear_cases e s with ⟨-, e⟩ | ⟨p, hp, hcase⟩
  · rw [e]; exact hs
  · have h1 := h.clearSteps hc p (by simp [hp]) e hs
    have hp1 : (Machine.clearSteps p e s).ps.plan.isSome = true := by simp [hp]
    rcases hcase with ⟨k, -, e⟩ | ⟨-, -, e⟩ | ⟨-, -, e⟩ <;> rw [e]
    · exact h.localHalt _ _ hp1 h1
    · exact h.cleared hp1 h1
    · exact h1

/-- What each elementary change, a new demand, an adoption and a reset keep, every shared operation keeps. -/
theorem Elementary.kept (h : Elementary c P)
    (hdemand : ∀ {s : State} (p : Plan) (v e : Nat) (k : Step), IsRead c → s.ps.plan = some p →
      v ≤ speedOf p k → P s → P (giveDemand (demandOf p s v e) s))
    (hadopt : ∀ {s : State} (m : Memory) (o : StoreOperation), reachesAll c = true →
      (m = s.ps.image ∨ m.wf = true) → P s → P (adoption (s.withPs { s.ps with image := m, op := o })))
    (hreset : ∀ {s : State}, resets c = true → P s → P (resetNode s)) : Kept c P :=
  Loose.kept {
    aside := h.aside
    trip := fun k d n _ => h.trip k d n
    remote := fun _ _ _ _ hp _ => h.halted _ hp
    clear := fun e hc => h.clear hc e
    demand := hdemand
    adopt := fun m o hc _ hm => hadopt m o hc hm
    reset := hreset
    session := h.session
    phase := fun new hp _ _ _ hnew => h.phase new hp hnew }

end laws

end Sys2Proof.Machine
end

section
/-! PROOFS. What adoption, refusal and reset leave in each block, and the laws that each elementary change keeps:
the counters, the demand words, the Peer Table, and the frame of every command. -/

namespace Sys2Proof.Machine

open Sys2Proof Sys2Proof.Safety

section laws

variable {c : Instr} {P : State → Prop} {s : State}

/-! ### Adoption, refusal and reset, block by block -/

/-- The state of an adoption before the entry into STARTING (R24, R60, R63, R97, R98, R135, R157, R167). -/
def handedOver (s : State) : State :=
  let t := handAdoption (planOf s.ps.image) (latchEvent .plan (s.withPs { s.ps with
    image := adoptedImage s.ps.image, plan := some (planOf s.ps.image), adopted := true,
    fingerprint := some (imageFingerprint (adoptedImage s.ps.image)), outcome := .adopted }))
  t.withPhc { t.phc with startup := .cleared, contactTimer := none }

theorem adoptPlan_eq (s : State) : adoptPlan s = changePhase .starting (handedOver s) := rfl

section

variable (s : State)

@[simp] theorem handedOver_pending : (handedOver s).pending = s.pending := by simp [handedOver, handAdoption]
@[simp] theorem handedOver_freeCount : (handedOver s).freeCount = s.freeCount := by
  simp [handedOver, handAdoption]
@[simp] theorem handedOver_lau : (handedOver s).lau = s.lau := by simp [handedOver, handAdoption]
@[simp] theorem handedOver_pt : (handedOver s).pt = s.pt.adopt (planOf s.ps.image) := by
  simp [handedOver, handAdoption]
@[simp] theorem handedOver_ci : (handedOver s).ci = columnAdopt s.ci := by simp [handedOver, handAdoption]
@[simp] theorem handedOver_phc :
    (handedOver s).phc = { s.phc with startup := .cleared, contactTimer := none } := by
  simp [handedOver, handAdoption]
@[simp] theorem handedOver_su : (handedOver s).su = { s.su with session := none, press := .none } := by
  simp [handedOver, handAdoption]
@[simp] theorem handedOver_pu : (handedOver s).pu = paceAdopt (planOf s.ps.image) s.pu := by
  simp [handedOver, handAdoption]
@[simp] theorem handedOver_tm : (handedOver s).tm = tripAdopt s.tm := by simp [handedOver, handAdoption]
@[simp] theorem handedOver_ps : (handedOver s).ps = { s.ps with
    image := adoptedImage s.ps.image, plan := some (planOf s.ps.image), adopted := true,
    fingerprint := some (imageFingerprint (adoptedImage s.ps.image)), outcome := .adopted } := by
  simp [handedOver, handAdoption]

@[simp] theorem enterUnplanned_pending : (enterUnplanned s).pending = s.pending := by simp [enterUnplanned]
@[simp] theorem enterUnplanned_freeCount : (enterUnplanned s).freeCount = s.freeCount := by
  simp [enterUnplanned]
@[simp] theorem enterUnplanned_pt : (enterUnplanned s).pt = .reset := by simp [enterUnplanned]
@[simp] theorem enterUnplanned_ci : (enterUnplanned s).ci = columnUnplanned s.ci := by simp [enterUnplanned]
@[simp] theorem enterUnplanned_phc :
    (enterUnplanned s).phc = { s.phc with phase := .unplanned, contactTimer := none } := by
  simp [enterUnplanned]
@[simp] theorem enterUnplanned_su :
    (enterUnplanned s).su = { s.su with session := none, press := .none } := by simp [enterUnplanned]
@[simp] theorem enterUnplanned_pu : (enterUnplanned s).pu =
    { s.pu with timer := none, demand := 0, clamped := false, sync := .acquire, lockRun := 0 } := by
  simp [enterUnplanned]
@[simp] theorem enterUnplanned_tm : (enterUnplanned s).tm = tripAdopt s.tm := by simp [enterUnplanned]
@[simp] theorem enterUnplanned_ps : (enterUnplanned s).ps = s.ps := by simp [enterUnplanned]

end

/-- The state of a refusal before UNPLANNED is entered: no plan is in force (R168). -/
def withdrawn (sec : PlanSection) (check : PlanCheck) (s : State) : State :=
  latchEvent .plan (s.withPs { s.ps with
    outcome := .badPlan sec check, adopted := false, fingerprint := none, plan := none })

/-- An adoption ends with the plan in force and STARTING entered, or refused in UNPLANNED (R167, R168). -/
theorem adoption_outcome (s : State) :
    (failingCheck s.ps.image = none ∧ adoption s = changePhase .starting (handedOver s))
      ∨ ∃ sec check, failingCheck s.ps.image = some (sec, check)
          ∧ ((s.phc.phase = .unplanned ∧ adoption s = withdrawn sec check s)
            ∨ (s.phc.phase ≠ .unplanned ∧ adoption s = enterUnplanned (withdrawn sec check s))) := by
  rcases adoption_cases s with ⟨sec, check, hf, e⟩ | ⟨hf, e⟩
  · refine .inr ⟨sec, check, hf, ?_⟩
    rw [e]
    by_cases hph : s.phc.phase = .unplanned
    · exact .inl ⟨hph, by simp [refusePlan, withdrawn, hph]⟩
    · exact .inr ⟨hph, by simp [refusePlan, withdrawn, hph]⟩
  · exact .inl ⟨hf, e⟩

/-- A predicate that each elementary change keeps is kept by an adoption when it holds of the hand-offs. -/
theorem Elementary.adoption (h : Elementary c P)
    (hand : failingCheck s.ps.image = none → P (handedOver s))
    (stay : ∀ sec check, s.phc.phase = .unplanned → P (withdrawn sec check s))
    (leave : ∀ sec check, s.phc.phase ≠ .unplanned → P (enterUnplanned (withdrawn sec check s))) :
    P (adoption s) := by
  rcases adoption_outcome s with ⟨hf, e⟩ | ⟨sec, check, -, ⟨hph, e⟩ | ⟨hph, e⟩⟩ <;> rw [e]
  · exact h.phase _ (by simp) (by simp) (hand hf)
  · exact stay sec check hph
  · exact leave sec check hph

/-! ### Runs, pace counters and phase timers -/

theorem runsLaw_of_measured {ci ci' : ColumnInterface} (h : measured ci' = measured ci) (hs : RunsLaw ci) :
    RunsLaw ci' := by
  have e {α : Type} (f : ColumnInterface → α) : f (measured ci') = f (measured ci) := congrArg f h
  have e1 : ci'.contactRun = ci.contactRun := e (·.contactRun)
  have e2 : ci'.unloadRun = ci.unloadRun := e (·.unloadRun)
  have e3 : ci'.lossRun = ci.lossRun := e (·.lossRun)
  have e4 : ci'.overloadRun = ci.overloadRun := e (·.overloadRun)
  have e5 : ci'.invalidRun = ci.invalidRun := e (·.invalidRun)
  have e6 : ci'.startSamples = ci.startSamples := e (·.startSamples)
  rw [RunsLaw, e1, e2, e3, e4, e5, e6]
  exact hs

/-- The counters of a node are in their ranges and held in their phases (R46, R75, R121, R128, R146). -/
def CountersLaw (s : State) : Prop := RunsLaw s.ci ∧ PaceLaw s.pu ∧ PhaseTimers s

/-- At a change of phase the sync state is kept between phases that are not paced, and ACQUIRE in any other
(R62, R128). -/
theorem paceAt_sync (old new : Phase) (pu : PaceUnit) :
    ((isPacing old = true ∨ isPacing new = true)
        ∧ (paceAt old new pu).sync = .acquire ∧ (paceAt old new pu).lockRun = 0)
      ∨ (isPacing old = false ∧ (paceAt old new pu).sync = pu.sync
        ∧ (paceAt old new pu).lockRun = pu.lockRun) := by
  cases ho : isPacing old <;> cases hn : isPacing new <;> simp [paceAt, ho, hn]

theorem paceLaw_paceAt (old new : Phase) {pu : PaceUnit} (h : PaceLaw pu) : PaceLaw (paceAt old new pu) := by
  obtain ⟨hrun, hcount, hsum⟩ := h
  cases ho : isPacing old <;> cases hn : isPacing new <;> simp [paceAt, ho, hn, PaceLaw, hrun, hcount, hsum]

theorem enterPhase_pu (p : Phase) (s : State) :
    (enterPhase p s).pu = paceAt s.phc.phase p s.pu := by
  simp [enterPhase]

theorem countersLaw_enterPhase (new : Phase) (h : CountersLaw s) : CountersLaw (enterPhase new s) := by
  obtain ⟨hruns, hpace, hsync, -, -⟩ := h
  refine ⟨by simpa using hruns, by rw [enterPhase_pu]; exact paceLaw_paceAt _ _ hpace, ?_, ?_, ?_⟩
  · intro hn
    rw [enterPhase_phase] at hn
    rw [enterPhase_pu]
    rcases paceAt_sync s.phc.phase new s.pu with ⟨-, e⟩ | ⟨ho, e1, e2⟩
    · exact e
    · rw [e1, e2]; exact hsync ho
  · intro hn
    rw [enterPhase_phase] at hn
    simp [contactTimerAt, hn]
  · intro hn
    rw [enterPhase_phase] at hn
    simp [hn]

theorem countersLaw_aside {s t : State} (h : Aside s t) (hs : CountersLaw s) : CountersLaw t := by
  obtain ⟨hruns, hpace, hsync, htimer, hrest⟩ := hs
  refine ⟨h.runs hruns, h.pace hpace, ?_, ?_, ?_⟩ <;> rw [h.phase] <;> intro hp
  · rw [(h.sync hp).1, (h.sync hp).2]; exact hsync hp
  · exact h.contactTimer (htimer hp)
  · rw [h.rest]; exact hrest hp

theorem countersLaw_elementary (c : Instr) : Elementary c CountersLaw where
  aside h hs := countersLaw_aside h.toAside hs
  record _ hs := hs
  flags _ _ hs := hs
  safe {s} hs := by
    obtain ⟨hruns, hpace, htimers⟩ := hs
    exact ⟨runsLaw_of_measured (safeDrive_measured s) hruns, hpace, htimers⟩
  drive _ hs := hs
  enter new _ _ hs := countersLaw_enterPhase new hs
  session _ _ _ hs := hs

theorem countersLaw_reset (s : State) : CountersLaw (resetNode s) := by
  refine ⟨?_, ?_, ?_, ?_, ?_⟩ <;> simp [resetNode, State.reset, RunsLaw, ColumnInterface.reset, PaceLaw,
    PaceUnit.reset, PhaseController.reset, TripMonitor.reset]

theorem countersLaw_kept (c : Instr) : Kept c CountersLaw :=
  (countersLaw_elementary c).kept
    (fun {s} p v e _ _ _ _ ⟨hruns, hpace, htimers⟩ =>
      ⟨runsLaw_of_measured (giveDemand_measured (demandOf p s v e) s) hruns, hpace, htimers⟩)
    (fun {s} m o _ _ hs => by
      obtain ⟨hruns, hpace, htimers⟩ := hs
      refine (countersLaw_elementary c).adoption (fun _ => ?_) (fun _ _ _ => ⟨hruns, hpace, htimers⟩)
        (fun _ _ _ => ?_)
      · obtain ⟨-, -, -, -, -, hinvalid, -⟩ := hruns
        refine ⟨?_, ?_, ?_, ?_, ?_⟩
        · simp [RunsLaw, columnAdopt, hinvalid]
        · simp [PaceLaw, paceAdopt]
        · simp [paceAdopt]
        · simp
        · simp [tripAdopt]
      · obtain ⟨-, hcount, hsum⟩ := hpace
        refine ⟨?_, ?_, ?_, ?_, ?_⟩
        · rw [enterUnplanned_ci]
          exact runsLaw_of_measured (ci' := sendWord 0 (setDrive false s.ci)) (by simp) hruns
        · rw [enterUnplanned_pu]; exact ⟨Nat.zero_le _, hcount, hsum⟩
        · simp
        · simp
        · simp [tripAdopt])
    (fun _ _ => countersLaw_reset _)

/-! ### The demand words -/

/-- The words on their way are even, one waits only behind a transfer, and the drive ends holding `d` (R51). -/
def WordsLaw (ci : ColumnInterface) (d : Int) : Prop :=
  (∀ w, (ci.transfer = some w ∨ ci.nextWord = some w) → EvenWord w)
    ∧ (ci.transfer = none → ci.nextWord = none) ∧ heldValue ci = BitVec.ofInt 16 d

/-- A demand handed to the drive is the one that it ends holding. -/
theorem wordsLaw_sendWord {ci : ColumnInterface} {d : Int} (h : WordsLaw ci d) (d' : Int) :
    WordsLaw (sendWord (BitVec.ofInt 16 d') ci) d' := by
  obtain ⟨heven, hbehind, -⟩ := h
  have hword : EvenWord (demandWord (BitVec.ofInt 16 d')) := evenParity_even _
  rcases sendWord_cases (BitVec.ofInt 16 d') ci with ⟨ht, e⟩ | ⟨ht, e⟩ <;> rw [e]
  · refine ⟨fun w hw => ?_, fun h0 => by simp at h0, ?_⟩
    · rcases hw with hw | hw
      · obtain rfl := Option.some.inj hw; exact hword
      · exact heven w (.inr hw)
    · simp [heldValue, hbehind ht, demandWord]
  · refine ⟨fun w hw => ?_, fun h0 => ?_, by simp [heldValue, demandWord]⟩
    · rcases hw with hw | hw
      · exact heven w (.inl hw)
      · obtain rfl := Option.some.inj hw; exact hword
    · have : ci.transfer = none := h0
      simp [this] at ht

theorem WordsGo.law {ci ci' : ColumnInterface} {d : Int} (h : WordsGo ci ci') (hs : WordsLaw ci d) :
    WordsLaw ci' d := by
  obtain ⟨heven, hbehind, hheld⟩ := hs
  exact ⟨fun w hw => heven w (h.old w hw), h.behind hbehind, h.held.trans hheld⟩

theorem driveWordLaw_aside {s t : State} (h : Aside s t) (hs : DriveWordLaw s) : DriveWordLaw t := by
  have := h.words.law (d := s.pu.demand) hs
  rw [← h.demand] at this
  exact this

theorem driveWordLaw_elementary (c : Instr) : Elementary c DriveWordLaw where
  aside h := driveWordLaw_aside h.toAside
  record _ hs := hs
  flags _ _ hs := hs
  safe {s} hs := wordsLaw_sendWord (ci := setDrive false s.ci) hs 0
  drive _ hs := hs
  enter new _ _ hs := by
    have e := enterPhase_demand new
    rw [DriveWordLaw, e, enterPhase_ci]; exact hs
  session _ _ _ hs := hs

theorem driveWordLaw_reset (s : State) : DriveWordLaw (resetNode s) := by
  refine ⟨fun w hw => ?_, fun h0 => ?_, rfl⟩
  · rcases hw with hw | hw
    · obtain rfl := Option.some.inj hw; exact evenParity_even 0
    · cases hw
  · cases h0

theorem driveWordLaw_kept (c : Instr) : Kept c DriveWordLaw :=
  (driveWordLaw_elementary c).kept
    (fun {s} p v e _ _ _ _ hs => wordsLaw_sendWord (ci := s.ci) hs _)
    (fun {s} m o _ _ hs => by
      refine (driveWordLaw_elementary c).adoption (fun _ => ?_) (fun _ _ _ => hs) (fun _ _ _ => ?_)
      · rw [DriveWordLaw, handedOver_ci, handedOver_pu]; exact hs
      · rw [DriveWordLaw, enterUnplanned_ci, enterUnplanned_pu]
        exact wordsLaw_sendWord (ci := setDrive false s.ci) hs 0)
    (fun _ _ => driveWordLaw_reset _)

/-! ### The Peer Table -/

theorem peerLaw_aside {s t : State} (h : Aside s t) (hs : PeerLaw s) : PeerLaw t := by
  unfold PeerLaw at hs ⊢
  rw [h.plan]
  cases hp : s.ps.plan with
  | none => simp only [hp] at hs ⊢; rw [h.table hp]; exact hs
  | some p =>
    simp only [hp] at hs ⊢
    obtain ⟨hk, hm, hl⟩ := hs
    exact ⟨hk, hm, h.peers p hp hk hl⟩

/-- The table law under a plan or none needs the plan and the table alone. -/
theorem peerLaw_congr {s t : State} (hp : t.ps.plan = s.ps.plan) (ht : t.pt = s.pt) (hs : PeerLaw s) :
    PeerLaw t := by
  unfold PeerLaw at hs ⊢
  rw [hp, ht]; exact hs

theorem peerLaw_elementary (c : Instr) : Elementary c (fun s => PlanAgrees s ∧ PeerLaw s) where
  aside h hs := by
    refine ⟨?_, peerLaw_aside h.toAside hs.2⟩
    rw [PlanAgrees, h.phase, h.plan]; exact hs.1
  record _ hs := hs
  flags _ _ hs := hs
  safe {s} hs := ⟨by rw [PlanAgrees, safeDrive_phc, safeDrive_ps]; exact hs.1,
    peerLaw_congr (by simp) (by simp) hs.2⟩
  drive _ hs := hs
  enter new hp hnew hs := by
    refine ⟨?_, peerLaw_congr (by simp) (by simp) hs.2⟩
    have hsome := Option.isSome_iff_ne_none.1 hp
    simp [PlanAgrees, hnew, hsome]
  session _ _ _ hs := hs

/-- The reset table lists nothing. -/
@[simp] theorem PeerTable.entry_reset (j : NodeNum) : PeerTable.reset.entry j = PeerEntry.blank .unlisted := by
  simp [PeerTable.entry, PeerTable.reset]

/-- What an adoption finds in a table: strangers have reported, and the period list names none twice. -/
theorem peerLaw_found (h : PeerLaw s) :
    (∀ j, (s.pt.entry j).state = .stranger → (s.pt.entry j).report.isSome = true) ∧ s.pt.periodList.Nodup := by
  unfold PeerLaw at h
  split at h
  · obtain ⟨-, -, -, -, he, hl⟩ := h
    refine ⟨fun j hj => ?_, hl⟩
    have hej := he j
    simp only [EntryLaw, hj] at hej
    exact hej.1
  · refine ⟨fun j hj => ?_, ?_⟩
    · simp [h, PeerEntry.blank] at hj
    · rw [h]; exact List.nodup_nil

/-- An entry at adoption (R24): blank but for a stranger still heard. -/
theorem adoptEntry_cases (p : Plan) (j : NodeNum) (e : PeerEntry) :
    (j = p.node ∧ adoptEntry p j e = .blank .self)
      ∨ (j ≠ p.node ∧ isMember p j = true ∧ adoptEntry p j e = .blank .expected)
      ∨ (j ≠ p.node ∧ isMember p j = false
        ∧ ((e.state = .stranger ∧ e.silence < p.kSil ∧ adoptEntry p j e = e)
          ∨ adoptEntry p j e = .blank .unlisted)) := by
  unfold adoptEntry
  split
  · next hj => exact .inl ⟨hj, rfl⟩
  · next hj =>
    split
    · next hm => exact .inr (.inl ⟨hj, hm, rfl⟩)
    · next hm =>
      refine .inr (.inr ⟨hj, by simpa using hm, ?_⟩)
      split
      · next hst =>
        split
        · exact .inr rfl
        · next hk => exact .inl ⟨hst, Nat.lt_of_not_le hk, rfl⟩
      all_goals exact .inr rfl

/-- Adoption makes a table that obeys the law of its plan (R24). -/
theorem tableLaw_adopt {p : Plan} {t : PeerTable}
    (hfound : ∀ j, (t.entry j).state = .stranger → (t.entry j).report.isSome = true)
    (hl : t.periodList.Nodup) : TableLaw p (t.adopt p) := by
  refine ⟨fun j => ?_, fun j hj => ?_, fun j => ?_, hl⟩ <;> rw [PeerTable.entry_adopt] <;>
    rcases adoptEntry_cases p j (t.entry j) with ⟨hj', e⟩ | ⟨hj', hmem, e⟩ | ⟨hj', hmem, ⟨hst, hk, e⟩ | e⟩ <;> rw [e]
  all_goals simp_all [PeerEntry.blank, EntryLaw]

/-- A plan that adoption puts into force is one that R165 admits: its node is a member, and K_sil is at least 2
(R165, R166). -/
theorem planOf_member {m : Memory} (h : failingCheck m = none) : isMember (planOf m) (planOf m).node = true := by
  unfold failingCheck at h
  split at h
  · cases h
  · split at h
    · cases h
    · split at h
      · cases h
      · split at h
        · cases h
        · next hle =>
          split at h
          · cases h
          · next hmem =>
            have hlt : (m.read 0x03).toNat < 64 := by omega
            have hnode : (imageNode m).val = (m.read 0x03).toNat := by
              simp [imageNode, Fin.ofNat, Nat.mod_eq_of_lt hlt]
            simpa [isMember, planOf, hnode] using hmem

theorem two_le_kSil (m : Memory) : 2 ≤ (planOf m).kSil := by
  simp [planOf, clampNat]

theorem peerLaw_handedOver (hf : failingCheck s.ps.image = none) (h : PeerLaw s) : PeerLaw (handedOver s) := by
  obtain ⟨hfound, hl⟩ := peerLaw_found h
  have hm := planOf_member hf
  simp only [PeerLaw, handedOver_ps, handedOver_pt]
  exact ⟨two_le_kSil _, hm, tableLaw_adopt hfound hl⟩

/-- An adoption ends with the laws of the table, whether the plan is put into force or refused (R24, R25). -/
theorem peerLaw_adoption (hplan : PlanAgrees s) (hpeer : PeerLaw s) :
    PlanAgrees (adoption s) ∧ PeerLaw (adoption s) := by
  rcases adoption_outcome s with ⟨hf, e⟩ | ⟨sec, check, -, ⟨hph, e⟩ | ⟨hph, e⟩⟩ <;> rw [e]
  · have hlaw := peerLaw_handedOver hf hpeer
    refine (peerLaw_elementary .adopt).moves.entered _ (fun hsame => ⟨?_, hlaw⟩)
      ⟨by simp [PlanAgrees], peerLaw_congr (by simp) (by simp) hlaw⟩
    have hstarting : s.phc.phase = .starting := by simpa using hsame
    simp [PlanAgrees, hstarting]
  · have hnone : s.ps.plan = none := hplan.1 hph
    simp only [PeerLaw, hnone] at hpeer
    exact ⟨by simpa [PlanAgrees, withdrawn] using hph, by simpa [PeerLaw, withdrawn] using hpeer⟩
  · simp [PlanAgrees, PeerLaw, withdrawn]

theorem peerLaw_reset (s : State) : PeerLaw (resetNode s) := by
  simp [PeerLaw, resetNode, State.reset, PlanStore.reset]

theorem peerLaw_kept (c : Instr) : Kept c (fun s => PlanAgrees s ∧ PeerLaw s) :=
  (peerLaw_elementary c).kept
    (fun {s} p v e _ _ _ _ hs => hs)
    (fun {s} m o _ _ hs =>
      peerLaw_adoption (s := s.withPs { s.ps with image := m, op := o }) hs.1 hs.2)
    (fun _ _ => ⟨by simp [PlanAgrees, resetNode, State.reset, PhaseController.reset, PlanStore.reset],
      peerLaw_reset _⟩)

/-! ### The frame of every command -/

theorem Framed.refl (c : Instr) (s : State) : Framed c s s where

theorem Framed.trans {s₀ s t : State} (h : Framed c s₀ s) (h' : Framed c s t) : Framed c s₀ t where
  pending := h'.pending.trans h.pending
  free hc := by
    refine (h'.free ?_).trans (h.free hc)
    by_cases hread : IsRead c
    · have hps : s.ps = s₀.ps := h.ps (by obtain ⟨a, w, b, f, rfl⟩ := hread; rfl)
      rw [hps]; exact hc
    · exact .inl fun a w b f e => hread ⟨a, w, b, f, e⟩
  ps hc := (h'.ps hc).trans (h.ps hc)
  pt hc := (h'.pt hc).trans (h.pt hc)
  others hc p hp j hj := by
    have hps : s.ps = s₀.ps := h.ps (by obtain ⟨a, w, b, f, rfl⟩ := hc; rfl)
    exact (h'.others hc p (by rw [hps]; exact hp) j hj).trans (h.others hc p hp j hj)
  epoch hc := (h'.epoch hc).trans (h.epoch hc)
  ci hc := (h'.ci hc).trans (h.ci hc)
  sp hc := by rw [h'.sp hc, h.sp hc]
  mask hc := (h'.mask hc).trans (h.mask hc)
  computed hc := by
    obtain ⟨a1, a2, a3, a4, a5, a6⟩ := h.computed hc
    obtain ⟨b1, b2, b3, b4, b5, b6⟩ := h'.computed hc
    exact ⟨b1.trans a1, b2.trans a2, b3.trans a3, b4.trans a4, b5.trans a5, b6.trans a6⟩
  sequence hc := (h'.sequence hc).trans (h.sequence hc)

/-- What a computation leaves is kept by every change of phase. -/
theorem paceAt_computed (old new : Phase) (pu : PaceUnit) :
    (paceAt old new pu).sample = pu.sample ∧ (paceAt old new pu).lifting = pu.lifting
      ∧ (paceAt old new pu).clamped = pu.clamped ∧ (paceAt old new pu).lastWindow = pu.lastWindow := by
  cases ho : isPacing old <;> cases hn : isPacing new <;> simp [paceAt, ho, hn]

/-- The Service Port but for its event latch. -/
def portBut (b : ServicePort) : ServicePort := { b with latch := 0 }

@[simp] theorem portBut_latchEvent (e : Event) (s : State) : portBut (latchEvent e s).sp = portBut s.sp := rfl

@[simp] theorem portBut_latchWhen (b : Bool) (e : Event) (s : State) :
    portBut (latchWhen b e s).sp = portBut s.sp := by
  unfold latchWhen
  split <;> rfl

/-- A change of phase latches events, and changes nothing else of the Service Port. -/
@[simp] theorem portBut_enterPhase (new : Phase) (s : State) :
    portBut (enterPhase new s).sp = portBut s.sp := by
  simp [enterPhase]

theorem eq_of_portBut {b b' : ServicePort} (h : portBut b' = portBut b) :
    b' = { b with latch := b'.latch } ∧ b'.mask = b.mask := by
  have e {α : Type} (f : ServicePort → α) : f (portBut b') = f (portBut b) := congrArg f h
  refine ⟨?_, e (·.mask)⟩
  have : { portBut b' with latch := b'.latch } = { portBut b with latch := b'.latch } := by rw [h]
  exact this

theorem framed_enterPhase (c : Instr) (new : Phase) (s : State) : Framed c s (enterPhase new s) where
  pending := by simp
  free _ := by simp
  ps _ := by simp
  pt _ := by simp
  others _ _ _ _ _ := by simp
  epoch _ := by simp
  ci _ := by simp
  sp _ := (eq_of_portBut (portBut_enterPhase new s)).1
  mask _ := (eq_of_portBut (portBut_enterPhase new s)).2
  computed _ := by simpa [enterPhase_pu] using paceAt_computed s.phc.phase new s.pu
  sequence _ := by simp

theorem framed_elementary (c : Instr) (s₀ : State) : Elementary c (Framed c s₀) where
  aside h hs := hs.trans h.toFramed
  record {s} _ hs := hs.trans {}
  flags {s} _ _ hs := hs.trans {}
  safe {s} hs := hs.trans { ci := fun _ => by simp }
  drive {s} _ hs := hs.trans {}
  enter {s} new _ _ hs := hs.trans (framed_enterPhase c new s)
  session {s} b _ hb hs := hs.trans { sequence := fun _ => hb }

/-- A command that can reach every block is bound by the queue and the free values alone. -/
theorem framed_of_reachesAll (hc : reachesAll c = true) {t : State} (hp : t.pending = s.pending)
    (hf : t.freeCount = s.freeCount) : Framed c s t where
  pending := hp
  free _ := hf
  ps h := absurd (hc.symm.trans (Bool.or_eq_false_iff.1 h).1) (by simp)
  pt h := absurd (hc.symm.trans (Bool.or_eq_false_iff.1 h).1) (by simp)
  others h := by obtain ⟨a, w, b, f, rfl⟩ := h; exact Bool.noConfusion hc
  epoch h := absurd (hc.symm.trans (Bool.or_eq_false_iff.1 h).1) (by simp)
  ci h := absurd (hc.symm.trans (Bool.or_eq_false_iff.1 h).1) (by simp)
  sp h := absurd (hc.symm.trans (Bool.or_eq_false_iff.1 h).1) (by simp)
  mask h := absurd (hc.symm.trans (Bool.or_eq_false_iff.1 h).1) (by simp)
  computed h := absurd (hc.symm.trans (Bool.or_eq_false_iff.1 h).1) (by simp)
  sequence h := absurd (hc.symm.trans (Bool.or_eq_false_iff.1 h).1) (by simp)

theorem adoption_outside (s : State) :
    (adoption s).pending = s.pending ∧ (adoption s).freeCount = s.freeCount := by
  rcases adoption_outcome s with ⟨-, e⟩ | ⟨sec, check, -, ⟨-, e⟩ | ⟨-, e⟩⟩ <;> rw [e] <;> simp [withdrawn]

theorem resets_reachesAll (hc : resets c = true) : reachesAll c = true := by
  cases c <;> simp_all [resets, reachesAll]

theorem framed_giveDemand (hread : IsRead c) (d : Int × Bool) (s : State) : Framed c s (giveDemand d s) := by
  obtain ⟨a, w, b, f, rfl⟩ := hread
  exact {
    pending := by simp
    free := by simp
    ps := by simp
    pt := by simp
    others := by simp
    epoch := by simp
    ci := by simp
    sp := by simp
    mask := by simp
    computed := fun h => Bool.noConfusion h
    sequence := by simp }

theorem framed_kept (c : Instr) (s₀ : State) : Kept c (Framed c s₀) :=
  (framed_elementary c s₀).kept
    (fun {s} p v e _ hread _ _ hs => hs.trans (framed_giveDemand hread (demandOf p s v e) s))
    (fun {s} m o hc _ hs => by
      obtain ⟨hpending, hfree⟩ := adoption_outside (s.withPs { s.ps with image := m, op := o })
      exact hs.trans (framed_of_reachesAll hc hpending hfree))
    (fun {s} hc hs => hs.trans (framed_of_reachesAll (s := s) (resets_reachesAll hc) rfl rfl))

end laws

end Sys2Proof.Machine
end

section
/-! PROOFS. The laws that tie phase, halt record, plan, drive and session to each other, and what every step keeps
of them. -/

namespace Sys2Proof.Machine

open Sys2Proof Sys2Proof.Safety

section laws

variable {c : Instr} {s : State}

/-! ### Phase, record, plan and drive -/

theorem phaseLaw_aside {s t : State} (h : Aside s t) (hs : PhaseLaw s) : PhaseLaw t := by
  obtain ⟨hhalt, hplan, henable, hbrake, hdemand⟩ := hs
  refine ⟨?_, ?_, ?_, ?_, ?_⟩
  · rw [HaltAgrees, h.phase, h.record]; exact hhalt
  · rw [PlanAgrees, h.phase, h.plan]; exact hplan
  · rw [h.phase, h.enable]; exact henable
  · rw [h.enable, h.brake]; exact hbrake
  · rw [h.phase, h.demand]; exact hdemand

/-- A halt leaves a node under a plan with the law, wherever it comes from. -/
theorem phaseLaw_applyHalt (r : HaltRecord) (hp : s.ps.plan.isSome = true) : PhaseLaw (applyHalt r s) := by
  obtain ⟨hrec, hph, henable, hbrake, hdemand, -⟩ := applyHalt_spec r s
  have hsome := Option.isSome_iff_ne_none.1 hp
  exact ⟨by simp [HaltAgrees, hrec, hph], by simp [PlanAgrees, hph, hsome],
    by simp [henable, hph, isMoving], by simp [henable, hbrake], fun _ => hdemand⟩

theorem phaseLaw_localHalt (k : Cause) (n : Option NodeNum) (hp : s.ps.plan.isSome = true) :
    PhaseLaw (localHalt k n s) :=
  phaseLaw_applyHalt _ (by simpa using hp)

/-- A trip of a node that is not halted leaves the law, whatever its drive was doing. -/
theorem phaseLaw_trip_running (k : Cause) (d : Option TravelSide) (n : Option NodeNum)
    (hp : s.ps.plan.isSome = true) (hn : isHalted s = false) : PhaseLaw (trip k d n s) := by
  rcases trip_cases k d n s with ⟨h, -⟩ | ⟨-, h, -⟩ | ⟨-, -, e⟩
  · simp [h] at hp
  · simp [hn] at h
  · rw [e]; exact phaseLaw_localHalt k n (by simpa using hp)

theorem phaseLaw_trip (k : Cause) (d : Option TravelSide) (n : Option NodeNum) (hs : PhaseLaw s) :
    PhaseLaw (trip k d n s) := by
  rcases trip_cases k d n s with ⟨-, e⟩ | ⟨-, -, e⟩ | ⟨hp, -, e⟩ <;> rw [e]
  · exact hs
  · exact hs
  · exact phaseLaw_localHalt k n (by simpa using hp)

theorem phaseLaw_tripAll (xs : List (Cause × Option TravelSide)) (hs : PhaseLaw s) :
    PhaseLaw (tripAll xs s) := by
  induction xs generalizing s with
  | nil => exact hs
  | cons x xs ih => exact ih (phaseLaw_trip _ _ _ hs)

/-- What holds between the new phase and the drive lines of the old one (R62): the column is still to follow. -/
structure Entered (old new : Phase) (s : State) : Prop where
  phase : s.phc.phase = new
  record : s.tm.record = none
  plan : s.ps.plan.isSome = true
  enable : s.ci.driveEnable = isMoving old
  brake : s.ci.brakeRelease = s.ci.driveEnable
  demand : isMoving old = false → s.pu.demand = 0

/-- A node that runs, under a plan, in a phase other than UNPLANNED and HALTED, has the law when its drive has. -/
theorem phaseLaw_running {s : State} (hrec : s.tm.record = none) (hp : s.ps.plan.isSome = true)
    (hh : s.phc.phase ≠ .halted) (hu : s.phc.phase ≠ .unplanned) (hd : DriveLaw s) : PhaseLaw s := by
  have hsome := Option.isSome_iff_ne_none.1 hp
  exact ⟨by simp [HaltAgrees, hrec, hh], by simp [PlanAgrees, hu, hsome], hd⟩

/-- The column follows the phase: the drive lines are asserted into the moving phases and made safe out of them,
unless the ready test halts the node (R52, R53). -/
theorem Entered.columnAt {old new : Phase} (h : Entered old new s) (hh : new ≠ .halted) (hu : new ≠ .unplanned) :
    PhaseLaw (columnAt old new s) := by
  obtain ⟨hphase, hrec, hp, henable, hbrake, hdemand⟩ := h
  unfold Machine.columnAt
  generalize ht : (if new = .retract then s.withCi { s.ci with contactHeight := none } else s) = t
  have hkept : t.phc = s.phc ∧ t.tm = s.tm ∧ t.ps = s.ps ∧ t.pu = s.pu
      ∧ t.ci.driveEnable = s.ci.driveEnable ∧ t.ci.brakeRelease = s.ci.brakeRelease := by
    rw [← ht]; split <;> exact ⟨rfl, rfl, rfl, rfl, rfl, rfl⟩
  obtain ⟨e1, e2, e3, e4, e5, e6⟩ := hkept
  have hn : isHalted t = false := by simp [isHalted, e2, hrec]
  have run {u : State} (hphc : u.phc = s.phc) (htm : u.tm = s.tm) (hps : u.ps = s.ps) (hd : DriveLaw u) :
      PhaseLaw u :=
    phaseLaw_running (by rw [htm, hrec]) (by rw [hps, hp]) (by rw [hphc, hphase]; exact hh)
      (by rw [hphc, hphase]; exact hu) hd
  dsimp only
  split
  · next hm =>
    obtain ⟨hnew, hold⟩ : isMoving new = true ∧ isMoving old = false := by simpa using hm
    split
    · exact phaseLaw_trip_running _ _ _ (by simpa [e3] using hp) hn
    · rw [hn]
      refine run e1 e2 e3 ⟨?_, rfl, ?_⟩
      · simp [setDrive, e1, hphase, hnew]
      · simp [e1, hphase, hnew]
  · next hm =>
    split
    · next hs =>
      obtain ⟨hold, hnew⟩ : isMoving old = true ∧ isMoving new = false := by simpa using hs
      refine run (by simp [e1]) (by simp [e2]) (by simp [e3]) ⟨?_, ?_, ?_⟩
      · simp [e1, hphase, hnew]
      · simp
      · simp
    · next hs =>
      have hsame : isMoving new = isMoving old := by
        revert hm hs; cases isMoving old <;> cases isMoving new <;> simp
      refine run e1 e2 e3 ⟨?_, ?_, ?_⟩
      · rw [e5, e1, hphase, hsame, henable]
      · rw [e5, e6, hbrake]
      · rw [e1, hphase, e4, hsame]; exact hdemand

/-- A change of phase of a node that is not halted, under a plan, keeps the drive with the phase (R52, R62). -/
theorem phaseLaw_changePhase {new : Phase} (hrec : s.tm.record = none) (hp : s.ps.plan.isSome = true)
    (hd : DriveLaw s) (hh : new ≠ .halted) (hu : new ≠ .unplanned) : PhaseLaw (changePhase new s) := by
  unfold Machine.changePhase
  split
  · next hsame => subst hsame; exact phaseLaw_running hrec hp hh hu hd
  · obtain ⟨henable, hbrake, hdemand⟩ := hd
    have hentered : Entered s.phc.phase new (enterPhase new s) :=
      ⟨by simp, by simp [hrec], by simpa using hp, by simpa using henable, by simpa using hbrake,
        by simpa using hdemand⟩
    have h1 := hentered.columnAt hh hu
    dsimp only
    split
    · exact phaseLaw_tripAll _ h1
    · exact h1

theorem phaseLaw_record_none (h : PhaseLaw s) (hh : s.phc.phase ≠ .halted) : s.tm.record = none := by
  obtain ⟨hhalt, -, -⟩ := h
  have := mt hhalt.2 hh
  simpa using this

theorem phaseLaw_moves (h : PhaseLaw s) {new : Phase} (hp : s.ps.plan.isSome = true)
    (hold : s.phc.phase ≠ .halted) (hh : new ≠ .halted) (hu : new ≠ .unplanned) :
    PhaseLaw (changePhase new s) :=
  phaseLaw_changePhase (phaseLaw_record_none h hold) hp h.2.2 hh hu

/-- A node under a plan is not UNPLANNED. -/
theorem phaseLaw_planned (h : PhaseLaw s) (hp : s.ps.plan.isSome = true) : s.phc.phase ≠ .unplanned := by
  obtain ⟨-, hplan, -⟩ := h
  intro hu
  simp [hplan.1 hu] at hp

@[simp] theorem clearSteps_record (p : Plan) (e : Byte) (s : State) :
    (clearSteps p e s).tm.record = none := by
  simp [clearSteps]

theorem clearSteps_drive (p : Plan) (e : Byte) (s : State) :
    (clearSteps p e s).ci.driveEnable = s.ci.driveEnable
      ∧ (clearSteps p e s).ci.brakeRelease = s.ci.brakeRelease := by
  simp only [clearSteps, State.withTm_ci]
  unfold resolveReference
  split
  · split <;> exact ⟨rfl, rfl⟩
  · exact ⟨rfl, rfl⟩

theorem driveLaw_clearSteps (p : Plan) (e : Byte) (h : DriveLaw s) : DriveLaw (clearSteps p e s) := by
  obtain ⟨he, hb⟩ := clearSteps_drive p e s
  rw [DriveLaw, he, hb, clearSteps_phc, clearSteps_pu]
  exact h

/-- A pending session is applied in IDLE or HOLD, under a plan, by a change of phase that keeps the law (R67). -/
theorem phaseLaw_tellAccepted (h : PhaseLaw s) (d : Direction) (hp : s.ps.plan.isSome = true) :
    PhaseLaw (tellAccepted d s) := by
  rcases tellAccepted_cases d s with e | ⟨-, hph, e⟩ | ⟨-, hph, e⟩ <;> rw [e]
  · exact h
  · exact phaseLaw_moves h hp (by simp [hph]) (by simp) (by simp)
  · exact phaseLaw_moves h hp (by simp [hph]) (by simp) (by simp)

theorem phaseLaw_applyPending (h : PhaseLaw s) (hp : s.ps.plan.isSome = true) : PhaseLaw (applyPending s) := by
  unfold Machine.applyPending
  split
  · split
    · exact phaseLaw_tellAccepted h _ hp
    · exact h
  · exact h

theorem phaseLaw_takeClear (h : PhaseLaw s) (e : Byte) : PhaseLaw (takeClear e s) := by
  rcases takeClear_cases e s with ⟨-, heq⟩ | ⟨p, hp, hcase⟩
  · rw [heq]; exact h
  · have hp1 : (clearSteps p e s).ps.plan.isSome = true := by simp [hp]
    have hd := driveLaw_clearSteps p e h.2.2
    rcases hcase with ⟨k, -, heq⟩ | ⟨-, -, heq⟩ | ⟨-, hn, heq⟩ <;> rw [heq]
    · exact phaseLaw_localHalt _ _ hp1
    · have hne := phaseOnClear_ne (clearSteps p e s)
      exact phaseLaw_applyPending (phaseLaw_changePhase (by simp) (by simpa using hp1) hd hne.2 hne.1)
        (by simpa using hp1)
    · have hnone : s.tm.record = none := by simpa [isHalted] using hn
      have hh : s.phc.phase ≠ .halted := fun hc => by simpa [hnone] using h.1.1 hc
      exact phaseLaw_running (by simp) hp1 (by simpa using hh) (by simpa using phaseLaw_planned h (by simp [hp])) hd

theorem driveLaw_handedOver (h : DriveLaw s) : DriveLaw (handedOver s) := by
  simpa [DriveLaw, columnAdopt, paceAdopt] using h

theorem columnUnplanned_drive (ci : ColumnInterface) :
    (columnUnplanned ci).driveEnable = false ∧ (columnUnplanned ci).brakeRelease = false := by
  have h : (sendWord 0 (setDrive false ci)).driveEnable = false
      ∧ (sendWord 0 (setDrive false ci)).brakeRelease = false := by
    rcases sendWord_cases 0 (setDrive false ci) with ⟨-, e⟩ | ⟨-, e⟩ <;> rw [e] <;> exact ⟨rfl, rfl⟩
  exact h

theorem phaseLaw_adoption (h : PhaseLaw s) : PhaseLaw (adoption s) := by
  rcases adoption_outcome s with ⟨hf, e⟩ | ⟨sec, check, -, ⟨hph, e⟩ | ⟨hph, e⟩⟩ <;> rw [e]
  · exact phaseLaw_changePhase (by simp [tripAdopt]) (by simp) (driveLaw_handedOver h.2.2) (by simp) (by simp)
  · obtain ⟨hhalt, -, hdrive⟩ := h
    exact ⟨hhalt, by simp [PlanAgrees, withdrawn, hph], hdrive⟩
  · obtain ⟨he, hb⟩ := columnUnplanned_drive (withdrawn sec check s).ci
    refine ⟨by simp [HaltAgrees, tripAdopt], by simp [PlanAgrees, withdrawn], ?_, ?_, ?_⟩
    · simp [he, isMoving]
    · simp [he, hb]
    · simp

theorem phaseLaw_reset (s : State) : PhaseLaw (resetNode s) := by
  refine ⟨?_, ?_, rfl, rfl, fun _ => rfl⟩
  · simp [HaltAgrees, resetNode, State.reset, PhaseController.reset, TripMonitor.reset]
  · simp [PlanAgrees, resetNode, State.reset, PhaseController.reset, PlanStore.reset]

/-- A demand that goes out leaves the drive lines as they were (R51). -/
theorem sendWord_lines (w : Word) (ci : ColumnInterface) :
    (sendWord w ci).driveEnable = ci.driveEnable ∧ (sendWord w ci).brakeRelease = ci.brakeRelease := by
  rcases sendWord_cases w ci with ⟨-, e⟩ | ⟨-, e⟩ <;> rw [e] <;> exact ⟨rfl, rfl⟩

/-- The demand of a phase that is not moving is 0 (R112). -/
theorem demandOf_rest {p : Plan} {s : State} (h : isMoving s.phc.phase = false) (v e : Nat) :
    demandOf p s v e = (0, false) := by
  unfold demandOf
  split <;> simp_all [isMoving]

theorem phaseLaw_giveDemand (h : PhaseLaw s) (p : Plan) (v e : Nat) :
    PhaseLaw (giveDemand (demandOf p s v e) s) := by
  obtain ⟨hhalt, hplan, henable, hbrake, hdemand⟩ := h
  refine ⟨hhalt, hplan, ?_, ?_, fun hm => ?_⟩
  · exact (sendWord_lines _ s.ci).1.trans henable
  · exact (sendWord_lines _ s.ci).2.trans (hbrake.trans (sendWord_lines _ s.ci).1.symm)
  · have hm' : isMoving s.phc.phase = false := by simpa using hm
    rw [demandOf_rest hm']; rfl

theorem phaseLaw_loose (c : Instr) : Loose c PhaseLaw where
  aside h := phaseLaw_aside h.toAside
  trip k d n _ := phaseLaw_trip k d n
  remote _ _ _ _ hp _ _ := phaseLaw_applyHalt _ hp
  clear e _ hs := phaseLaw_takeClear hs e
  demand p v e _ _ _ _ hs := phaseLaw_giveDemand hs p v e
  adopt {s} m o _ _ _ hs := phaseLaw_adoption (s := s.withPs { s.ps with image := m, op := o }) hs
  reset _ _ := phaseLaw_reset _
  session _ _ _ hs := hs
  phase _ hp hold _ hh hu hs := phaseLaw_moves hs hp hold hh hu

/-! ### A halt record keeps its content -/

/-- The node is halted with a record. -/
def HoldsHalt (r : HaltRecord) (s : State) : Prop := s.tm.record = some r ∧ s.phc.phase = .halted

theorem HoldsHalt.isHalted {r : HaltRecord} (h : HoldsHalt r s) : isHalted s = true := by
  simp [Machine.isHalted, h.1]

/-- A command that takes no clear, no reset and no plan leaves a halt as it is: a halted node takes no second one
(R137, R140, R149). -/
theorem holdsHalt_loose {r : HaltRecord} (hclear : clears c = false) (hreset : resets c = false)
    (hload : ∀ bytes, c ≠ .loadComplete bytes) : Loose c (HoldsHalt r) where
  aside h hs := ⟨h.record.trans hs.1, h.phase.trans hs.2⟩
  trip {s} k d n _ hs := by
    rcases trip_cases k d n s with ⟨-, e⟩ | ⟨-, -, e⟩ | ⟨-, hn, -⟩
    · rw [e]; exact hs
    · rw [e]; exact hs
    · simp [hs.isHalted] at hn
  remote _ _ _ _ _ hn hs := by simp [hs.isHalted] at hn
  clear _ h _ := by simp [hclear] at h
  demand _ _ _ _ _ _ _ hs := hs
  adopt {s} _ _ _ hperm _ hs := by
    rcases hperm with hperm | ⟨bytes, e⟩
    · simp [planPermitted_iff, hs.2] at hperm
    · exact absurd e (hload bytes)
  reset h _ := by simp [hreset] at h
  session _ _ _ hs := hs
  phase _ _ hold _ _ _ hs := absurd hs.2 hold

/-! ### UNPLANNED is quiet, and flags are held by the halted alone -/

/-- A TRAVEL_LIMIT side is recorded exactly while its flag is set (R138). -/
def SideLaw (s : State) : Prop := s.tm.travelSide.isSome = true ↔ hasFlag s.tm.flags .travelLimit = true

theorem causeCode_bounds (k : Cause) : 1 ≤ causeCode k ∧ causeCode k ≤ 16 := by
  cases k <;> decide

theorem causeCode_injective {k k' : Cause} (h : causeCode k = causeCode k') : k = k' := by
  cases k <;> cases k' <;> simp_all [causeCode]

/-- Setting a flag sets that flag and no other. -/
theorem hasFlag_withFlag (f : BitVec 16) (k k' : Cause) :
    hasFlag (withFlag f k) k' = (hasFlag f k' || decide (k = k')) := by
  obtain ⟨h1, h16⟩ := causeCode_bounds k
  obtain ⟨h1', h16'⟩ := causeCode_bounds k'
  have hiff : (causeCode k - 1 = causeCode k' - 1) ↔ k = k' :=
    ⟨fun h => causeCode_injective (by omega), fun h => by rw [h]⟩
  have hlt : causeCode k - 1 < 16 := by omega
  simp [hasFlag, withFlag, causeBit, BitVec.getLsbD_twoPow, hiff, hlt]

theorem sideLaw_setFlag {k : Cause} {d : Option TravelSide} (hd : d.isSome = true ↔ k = .travelLimit)
    (h : SideLaw s) : SideLaw (setFlag k d s) := by
  unfold SideLaw at h ⊢
  rw [setFlag_flags, hasFlag_withFlag]
  cases d with
  | none =>
    have hk : k ≠ .travelLimit := fun e => by simp [e] at hd
    simpa [setFlag, hk] using h
  | some x =>
    have hk : k = .travelLimit := hd.1 rfl
    simp [setFlag, hk]

theorem sideLaw_foldFlags {xs : List (Cause × Option TravelSide)} (hx : ∀ x ∈ xs, SideFits x) (h : SideLaw s) :
    SideLaw (xs.foldl (fun t x => setFlag x.1 x.2 t) s) := by
  induction xs generalizing s with
  | nil => exact h
  | cons x xs ih =>
    exact ih (fun y hy => hx y (List.mem_cons_of_mem x hy)) (sideLaw_setFlag (hx x List.mem_cons_self) h)

theorem sideLaw_congr {s t : State} (hf : t.tm.flags = s.tm.flags) (hd : t.tm.travelSide = s.tm.travelSide)
    (h : SideLaw s) : SideLaw t := by
  unfold SideLaw at h ⊢
  rw [hf, hd]; exact h

theorem sideLaw_haltOrder (h : SideLaw s) : SideLaw (haltOrder s) := by
  unfold haltOrder
  dsimp only
  split
  · exact sideLaw_congr (by simp) (by simp) h
  · exact sideLaw_foldFlags (switchCauses_fit _ _) (sideLaw_congr (by simp) (by simp) h)

theorem flagsLaw_applyHalt (r : HaltRecord) (h : SideLaw s) : FlagsLaw (applyHalt r s) := by
  refine ⟨fun _ => by simp [(applyHalt_spec r s).1], ?_⟩
  have h1 := sideLaw_haltOrder (s := s.withTm { s.tm with record := some r }) h
  exact sideLaw_congr (s := haltOrder (s.withTm { s.tm with record := some r }))
    (by simp [applyHalt]) (by simp [applyHalt]) h1

theorem flagsLaw_localHalt (k : Cause) (n : Option NodeNum) (h : SideLaw s) : FlagsLaw (localHalt k n s) :=
  flagsLaw_applyHalt _ (sideLaw_congr (by simp) (by simp) h)

theorem flagsLaw_congr {s t : State} (hr : t.tm.record = s.tm.record) (hf : t.tm.flags = s.tm.flags)
    (hd : t.tm.travelSide = s.tm.travelSide) (h : FlagsLaw s) : FlagsLaw t := by
  unfold FlagsLaw at h ⊢
  rw [hr, hf, hd]; exact h

theorem flagsLaw_aside {s t : State} (h : Aside s t) (hs : FlagsLaw s) : FlagsLaw t :=
  flagsLaw_congr h.record h.flags h.side hs

theorem flagsLaw_moves (c : Instr) : Moves c FlagsLaw where
  aside h := flagsLaw_aside h.toAside
  trip {s} k d n hd hs := by
    rcases trip_cases k d n s with ⟨-, e⟩ | ⟨-, hh, e⟩ | ⟨-, -, e⟩ <;> rw [e]
    · exact hs
    · exact ⟨fun _ => hh, sideLaw_setFlag hd hs.2⟩
    · exact flagsLaw_localHalt k n (sideLaw_setFlag hd hs.2)
  safe {s} hs := flagsLaw_congr (by simp) (by simp) (by simp) hs
  drive _ hs := hs

theorem flagsLaw_changePhase (new : Phase) (h : FlagsLaw s) : FlagsLaw (changePhase new s) :=
  (flagsLaw_moves .reset).entered new (fun _ => h) (flagsLaw_congr (by simp) (by simp) (by simp) h)

/-- The flags where a condition holds are the flags of the causes that satisfy it. -/
theorem hasFlag_flagsWhere (keep : Cause → Bool) (k : Cause) : hasFlag (flagsWhere keep) k = keep k := by
  have hfold : ∀ (ks : List Cause) (f : BitVec 16),
      hasFlag (ks.foldl (fun fl c => if keep c then withFlag fl c else fl) f) k
        = (hasFlag f k || (ks.contains k && keep k)) := by
    intro ks
    induction ks with
    | nil => simp
    | cons c ks ih =>
      intro f
      rw [List.foldl_cons, ih]
      by_cases hc : c = k
      · subst hc
        cases hk : keep c <;> simp [hasFlag_withFlag]
      · have hc' : ¬ k = c := fun e => hc e.symm
        cases hk : keep c <;> simp [hasFlag_withFlag, hc, hc']
  have hmem : allCauses.contains k = true := by cases k <;> decide
  rw [flagsWhere, hfold, hmem]
  simp [hasFlag]

/-- No flag is the lowest only when none is set. -/
theorem flags_eq_zero_of_lowestFlag {f : BitVec 16} (h : lowestFlag f = none) : f = 0 := by
  have hnone : ∀ k ∈ allCauses, hasFlag f k = false := by
    intro k hk
    have := List.find?_eq_none.1 h k hk
    simpa using this
  have hbit : ∀ i < 16, f.getLsbD i = false := by
    intro i hi
    have hcode : ∃ k ∈ allCauses, causeCode k - 1 = i := by
      revert hi; revert i; decide
    obtain ⟨k, hk, hi'⟩ := hcode
    rw [← hi']; exact hnone k hk
  apply BitVec.eq_of_getLsbD_eq
  intro i hi
  simp [hbit i hi]

end laws

end Sys2Proof.Machine
end

section
/-! PROOFS. Flags, UNPLANNED and motion: what every command keeps of them. -/

namespace Sys2Proof.Machine

open Sys2Proof Sys2Proof.Safety

section laws

variable {c : Instr} {s : State}

/-! ### Flags over clears and adoptions -/

/-- A TRAVEL_LIMIT is judged by the side that it recorded (R153). -/
theorem side_of_conditionHolds (h : conditionHolds s .travelLimit = true) : s.tm.travelSide.isSome = true := by
  cases hs : s.tm.travelSide with
  | none => simp [conditionHolds, hs] at h
  | some d => rfl

/-- A clear keeps the side of a TRAVEL_LIMIT exactly when it keeps its flag, which it does only with a side to
judge it by (R152, R153). -/
theorem sideLaw_clearSteps (p : Plan) (e : Byte) (s : State) : SideLaw (clearSteps p e s) := by
  unfold clearSteps
  extract_lets _ s1 s2
  unfold SideLaw
  simp only [State.withTm_tm]
  split
  · next hk =>
    have hcond : conditionHolds s2 .travelLimit = true := by
      rw [keptFlags, hasFlag_flagsWhere] at hk
      simp only [Bool.and_eq_true] at hk
      exact hk.2
    exact iff_of_true (side_of_conditionHolds hcond) hk
  · next hk => exact iff_of_false (by simp) hk

theorem flagsLaw_applyPending (h : FlagsLaw s) : FlagsLaw (applyPending s) := by
  unfold applyPending
  split
  · split
    · rename_i ss _ _
      rcases tellAccepted_cases ss.dir s with e | ⟨-, -, e⟩ | ⟨-, -, e⟩ <;> rw [e]
      · exact h
      · exact flagsLaw_changePhase _ h
      · exact flagsLaw_changePhase _ h
    · exact h
  · exact h

theorem flagsLaw_takeClear (e : Byte) (h : FlagsLaw s) : FlagsLaw (takeClear e s) := by
  rcases takeClear_cases e s with ⟨-, heq⟩ | ⟨p, -, hcase⟩
  · rw [heq]; exact h
  · have hside := sideLaw_clearSteps p e s
    have hgone (hl : lowestFlag (clearSteps p e s).tm.flags = none) : FlagsLaw (clearSteps p e s) :=
      ⟨fun hf => absurd (flags_eq_zero_of_lowestFlag hl) hf, hside⟩
    rcases hcase with ⟨k, -, heq⟩ | ⟨hl, -, heq⟩ | ⟨hl, -, heq⟩ <;> rw [heq]
    · exact flagsLaw_localHalt _ _ hside
    · exact flagsLaw_applyPending (flagsLaw_changePhase _ (hgone hl))
    · exact hgone hl

theorem flagsLaw_tripAdopt {t : State} (tm : TripMonitor) (h : t.tm = tripAdopt tm) : FlagsLaw t := by
  simp [FlagsLaw, h, tripAdopt, hasFlag]

theorem flagsLaw_adoption (h : FlagsLaw s) : FlagsLaw (adoption s) := by
  rcases adoption_outcome s with ⟨-, e⟩ | ⟨sec, check, -, ⟨-, e⟩ | ⟨-, e⟩⟩ <;> rw [e]
  · exact flagsLaw_changePhase _ (flagsLaw_tripAdopt s.tm (by simp))
  · exact h
  · exact flagsLaw_tripAdopt (withdrawn sec check s).tm (by simp)

theorem flagsLaw_reset (s : State) : FlagsLaw (resetNode s) := by
  simp [FlagsLaw, resetNode, State.reset, TripMonitor.reset, hasFlag]

theorem flagsLaw_loose (c : Instr) : Loose c FlagsLaw where
  aside h := flagsLaw_aside h.toAside
  trip := (flagsLaw_moves c).trip
  remote _ _ _ _ _ _ hs := flagsLaw_applyHalt _ hs.2
  clear e _ hs := flagsLaw_takeClear e hs
  demand _ _ _ _ _ _ _ hs := hs
  adopt {s} m o _ _ _ hs := flagsLaw_adoption (s := s.withPs { s.ps with image := m, op := o }) hs
  reset _ _ := flagsLaw_reset _
  session _ _ _ hs := hs
  phase new _ _ _ _ _ hs := flagsLaw_changePhase new hs

/-! ### UNPLANNED is quiet -/

/-- A planned node has nothing to keep quiet. -/
theorem quiet_of_planned (h : PhaseLaw s) (hp : s.ps.plan.isSome = true) : UnplannedQuiet s :=
  fun hu => absurd hu (phaseLaw_planned h hp)

theorem quiet_aside {s t : State} (h : Aside s t) (hlaw : PhaseLaw s) (hs : UnplannedQuiet s) :
    UnplannedQuiet t := by
  intro hu
  rw [h.phase] at hu
  have hnone : s.ps.plan = none := hlaw.2.1.1 hu
  obtain ⟨hurgent, hnormal, hsent, hdefer, hsession, hpress, htimer, hload, hsilent, hcontact, hflags, htable⟩ :=
    hs hu
  obtain ⟨hurgent', hnormal', hsent', hdefer'⟩ := h.lanes hnone ⟨hurgent, hnormal, hsent, hdefer⟩
  have hsession' : t.su.session = none := by
    rcases h.session with e | ⟨ss, n, e, -⟩
    · rw [e, hsession]
    · simp [hsession] at e
  have hpress' : t.su.press = .none := by
    rcases h.press with e | ⟨hp, -⟩
    · rw [e, hpress]
    · simp [hnone] at hp
  obtain ⟨hload', hsilent'⟩ := h.silence hnone hload
  exact ⟨hurgent', hnormal', hsent', hdefer', hsession', hpress', h.timer hnone htimer, hload',
    hsilent'.trans hsilent, h.contactTimer hcontact, h.flags.trans hflags, (h.table hnone).trans htable⟩

/-- The entry into UNPLANNED leaves the node quiet (R18, R25, R60, R97, R98). -/
theorem quiet_enterUnplanned (s : State) : UnplannedQuiet (enterUnplanned s) := by
  intro _
  simp [enterUnplanned_lau, columnUnplanned, tripAdopt]

theorem quiet_adoption (hlaw : PhaseLaw s) (h : UnplannedQuiet s) : UnplannedQuiet (adoption s) := by
  have hlaw' := phaseLaw_adoption hlaw
  rcases adoption_outcome s with ⟨-, e⟩ | ⟨sec, check, -, ⟨-, e⟩ | ⟨-, e⟩⟩ <;> rw [e] at hlaw' ⊢
  · exact quiet_of_planned hlaw' (by simp)
  · exact h
  · exact quiet_enterUnplanned _

theorem quiet_reset (s : State) : UnplannedQuiet (resetNode s) := by
  intro _
  simp [resetNode, State.reset, LineAccess.reset, SessionUnit.reset, PaceUnit.reset, ColumnInterface.reset,
    PhaseController.reset, TripMonitor.reset]

theorem quiet_loose (c : Instr) : Loose c (fun s => PhaseLaw s ∧ UnplannedQuiet s) where
  aside h hs := ⟨phaseLaw_aside h.toAside hs.1, quiet_aside h.toAside hs.1 hs.2⟩
  trip {s} k d n _ hs := by
    have hlaw := phaseLaw_trip k d n hs.1
    refine ⟨hlaw, ?_⟩
    rcases trip_cases k d n s with ⟨-, e⟩ | ⟨hp, -⟩ | ⟨hp, -⟩
    · rw [e]; exact hs.2
    · exact quiet_of_planned hlaw (by simpa using hp)
    · exact quiet_of_planned hlaw (by simpa using hp)
  remote k n w q hp _ _ :=
    have hlaw := phaseLaw_applyHalt _ hp
    ⟨hlaw, quiet_of_planned hlaw (by simpa using hp)⟩
  clear {s} e _ hs := by
    have hlaw := phaseLaw_takeClear hs.1 e
    refine ⟨hlaw, ?_⟩
    rcases takeClear_cases e s with ⟨-, heq⟩ | ⟨p, hp, -⟩
    · rw [heq]; exact hs.2
    · exact quiet_of_planned hlaw (by simp [hp])
  demand p v e _ _ hp _ hs :=
    have hlaw := phaseLaw_giveDemand hs.1 p v e
    ⟨hlaw, quiet_of_planned hlaw (by simp [hp])⟩
  adopt {s} m o _ _ _ hs := by
    refine ⟨phaseLaw_adoption (s := s.withPs { s.ps with image := m, op := o }) hs.1, ?_⟩
    exact quiet_adoption (s := s.withPs { s.ps with image := m, op := o }) hs.1 hs.2
  reset _ _ := ⟨phaseLaw_reset _, quiet_reset _⟩
  session {s} b hp _ hs :=
    have hlaw : PhaseLaw (s.withSu b) := hs.1
    ⟨hlaw, quiet_of_planned hlaw hp⟩
  phase new hp hold _ hh hu hs :=
    have hlaw := phaseLaw_moves hs.1 hp hold hh hu
    ⟨hlaw, quiet_of_planned hlaw (by simpa using hp)⟩

/-! ### Motion and session -/

/-- A phase asks the same of a session whatever its keep count. -/
theorem phaseSession_keep (ph : Phase) (ss : Session) (n : Nat) :
    phaseSession ph (some { ss with keep := n }) = phaseSession ph (some ss) := by
  cases ph <;> rfl

theorem motionLaw_aside {s t : State} (h : Aside s t) (hs : MotionLaw s) : MotionLaw t := by
  obtain ⟨hphase, hheld⟩ := hs
  have hsession : phaseSession s.phc.phase t.su.session = true
      ∧ t.su.session.map (·.token) = s.su.session.map (·.token) := by
    rcases h.session with e | ⟨ss, n, e, e'⟩
    · rw [e]; exact ⟨hphase, rfl⟩
    · rw [e] at hphase
      rw [e, e', phaseSession_keep]; exact ⟨hphase, rfl⟩
  refine ⟨by rw [h.phase]; exact hsession.1, fun k d q hk => ?_⟩
  rw [hsession.2]
  rcases h.press with e | ⟨-, hne⟩
  · exact hheld k d q (e ▸ hk)
  · exact absurd hk (hne k d q)

/-- Phase and Session Unit decide the law. -/
theorem motionLaw_congr {s t : State} (hph : t.phc.phase = s.phc.phase) (hsu : t.su = s.su)
    (h : MotionLaw s) : MotionLaw t := by
  rw [MotionLaw, hph, hsu]; exact h

theorem pressAtHalt_not_held (held : Option Direction) (r : Press) (k : Token) (d : Direction) (q : Preset) :
    pressAtHalt held r ≠ .held k d q := by
  unfold pressAtHalt
  split <;> try simp
  split <;> simp

theorem motionLaw_applyHalt (r : HaltRecord) (s : State) : MotionLaw (applyHalt r s) := by
  obtain ⟨-, hph, -, -, -, hsession⟩ := applyHalt_spec r s
  refine ⟨by simp [hph, hsession, phaseSession], fun k d q hk => ?_⟩
  simp only [applyHalt, latchEvent_su, endSessionInHalt, composeEndOf_su, State.withSu_su] at hk
  exact absurd hk (pressAtHalt_not_held _ _ _ _ _)

theorem motionLaw_moves (c : Instr) : Moves c MotionLaw where
  aside h := motionLaw_aside h.toAside
  trip {s} k d n _ hs := by
    rcases trip_cases k d n s with ⟨-, e⟩ | ⟨-, -, e⟩ | ⟨-, -, e⟩ <;> rw [e]
    · exact hs
    · exact hs
    · exact motionLaw_applyHalt _ _
  safe {s} hs := motionLaw_congr (by simp) (by simp) hs
  drive _ hs := hs

/-- A phase that the session held permits is changed to with the law. -/
theorem motionLaw_changePhase {new : Phase} (hnew : phaseSession new s.su.session = true)
    (hheld : HeldAgrees s.su) : MotionLaw (changePhase new s) :=
  (motionLaw_moves .reset).entered new (fun hsame => ⟨by rw [hsame]; exact hnew, hheld⟩)
    ⟨by simpa using hnew, by simpa using hheld⟩

/-- An accepted PENDING session moves the phase to one that it permits, or leaves it (R66). -/
theorem motionLaw_tellAccepted {ss : Session} (hss : s.su.session = some ss) (hpending : ss.state = .pending)
    (h : MotionLaw s) : MotionLaw (tellAccepted ss.dir s) := by
  rcases tellAccepted_cases ss.dir s with e | ⟨hd, -, e⟩ | ⟨hd, -, e⟩ <;> rw [e]
  · exact h
  · exact motionLaw_changePhase (by simp [hss, phaseSession, hpending, hd]) h.2
  · exact motionLaw_changePhase (by simp [hss, phaseSession, hpending, hd]) h.2

theorem motionLaw_applyPending (h : MotionLaw s) : MotionLaw (applyPending s) := by
  unfold applyPending
  split
  · next ss hss =>
    split
    · next hc => exact motionLaw_tellAccepted hss hc.1 h
    · exact h
  · exact h

theorem motionLaw_acceptSession (k : Token) (d : Direction) (q : Preset) (hnone : s.su.session = none)
    (h : MotionLaw s) : MotionLaw (acceptSession k d q s) := by
  obtain ⟨hphase, hheld⟩ := h
  refine motionLaw_tellAccepted (ss := { state := .pending, token := k, dir := d, preset := q, keep := 0 })
    rfl rfl ⟨?_, fun k' d' q' hk => ?_⟩
  · rw [hnone] at hphase
    revert hphase
    simp only [State.withSu_phc, State.withSu_su]
    cases s.phc.phase <;> simp [phaseSession]
  · simp only [State.withSu_su] at hk ⊢
    cases hpress : s.su.press with
    | waiting t d' q' =>
      by_cases hkt : t = k
      · simp_all [pressOnAccept]
      · simp [hpress, pressOnAccept, hkt] at hk
    | held t d' q' =>
      have := hheld t d' q' hpress
      simp [hnone] at this
    | spent t d' q' => simp [hpress, pressOnAccept] at hk
    | none => simp [hpress, pressOnAccept] at hk

theorem motionLaw_endSession (k : StopCause) (h : MotionLaw s) : MotionLaw (endSession k s) := by
  obtain ⟨hphase, hheld⟩ := h
  cases hss : s.su.session with
  | none => rw [endSession_none k hss]; exact ⟨hphase, hheld⟩
  | some ss =>
    rw [endSession_some hss]
    have hpress : ∀ t d q, pressOnEnd k ss.token s.su.press ≠ .held t d q := by
      intro t d q hk
      cases hp : s.su.press with
      | held t' d' q' =>
        have := hheld t' d' q' hp
        simp only [hss, Option.map_some, Option.some.injEq] at this
        simp [hp, pressOnEnd, this] at hk
      | waiting t' d' q' => simp only [hp, pressOnEnd] at hk; split at hk <;> simp at hk
      | spent t' d' q' => simp [hp, pressOnEnd] at hk
      | none => simp [hp, pressOnEnd] at hk
    generalize ht : recordEnded k ss s = t
    have hsu : t.su = { s.su with session := none, press := pressOnEnd k ss.token s.su.press } := by
      rw [← ht]; simp
    have hph : t.phc = s.phc := by rw [← ht]; simp
    have hheld' : HeldAgrees t.su := by
      intro t' d' q' hk; rw [hsu] at hk; exact absurd hk (hpress t' d' q')
    have hsession : t.su.session = none := by rw [hsu]
    unfold tellEnded
    have hfree : phaseSession (phaseOnEnd s.phc.phase) none = true := by
      cases s.phc.phase <;> rfl
    rw [hph]
    refine motionLaw_changePhase ?_ ?_
    · split <;> simpa [hsession] using hfree
    · split <;> simpa using hheld'

theorem motionLaw_startCondition (p : Plan) (h : MotionLaw s) : MotionLaw (startCondition p s) := by
  rcases startCondition_cases p s with e | ⟨ss, hss, hstate, -, hawaits, -, e⟩
  · rw [e]; exact h
  · obtain ⟨-, hheld⟩ := h
    have hheld' : HeldAgrees
        (s.withSu { s.su with session := some { ss with state := .running } }).su := by
      intro t d q hk
      have := hheld t d q hk
      simpa [hss] using this
    rw [e]
    generalize ht : s.withSu { s.su with session := some { ss with state := .running } } = t at hheld'
    have hsession : t.su.session = some { ss with state := .running } := by rw [← ht]; rfl
    have hph : t.phc.phase = s.phc.phase := by rw [← ht]; rfl
    unfold tellStarted
    split
    · next hd => exact motionLaw_changePhase (by simp [hsession, phaseSession, hd]) hheld'
    · next hd => exact motionLaw_changePhase (by simp [hsession, phaseSession, hd]) hheld'
    · next hidle hd =>
      split
      · exact motionLaw_changePhase (by simp [hsession, phaseSession, hd]) hheld'
      · exact ⟨by simp [setLastStop, hidle, phaseSession], hheld'⟩
    · next hup hdown hidle =>
      rw [← hph] at hawaits
      cases hd : ss.dir with
      | up =>
        rw [hd, awaitsStart, beq_iff_eq] at hawaits
        exact absurd hd (hup hawaits)
      | down =>
        rw [hd, awaitsStart, Bool.or_eq_true, beq_iff_eq, beq_iff_eq] at hawaits
        rcases hawaits with hph' | hph'
        · exact absurd hd (hdown hph')
        · exact absurd hd (hidle hph')

theorem motionLaw_takeClear (e : Byte) (hlaw : PhaseLaw s) (h : MotionLaw s) : MotionLaw (takeClear e s) := by
  rcases takeClear_cases e s with ⟨-, heq⟩ | ⟨p, -, hcase⟩
  · rw [heq]; exact h
  · have hsteps : MotionLaw (clearSteps p e s) := motionLaw_congr (by simp) (by simp) h
    rcases hcase with ⟨k, -, heq⟩ | ⟨-, hh, heq⟩ | ⟨-, -, heq⟩ <;> rw [heq]
    · exact motionLaw_applyHalt _ _
    · refine motionLaw_applyPending (motionLaw_changePhase ?_ (by simpa using h.2))
      have hhalted : s.phc.phase = .halted := hlaw.1.2 hh
      have hphase := h.1
      rw [hhalted] at hphase
      simp only [latchEvent_su, clearSteps_su]
      rcases phaseOnClear_cases (clearSteps p e s) with e | e | e <;> rw [e]
      · cases hss : s.su.session <;> simp_all [phaseSession]
      · simp [phaseSession]
      · simp [phaseSession]
    · exact hsteps

theorem heldAgrees_none : HeldAgrees { s.su with session := none, press := .none } := by
  intro k d q hk; cases hk

theorem motionLaw_adoption (h : MotionLaw s) : MotionLaw (adoption s) := by
  rcases adoption_outcome s with ⟨-, e⟩ | ⟨sec, check, -, ⟨-, e⟩ | ⟨-, e⟩⟩ <;> rw [e]
  · refine motionLaw_changePhase (by simp [phaseSession]) ?_
    rw [handedOver_su]; exact heldAgrees_none
  · exact h
  · refine ⟨by simp [phaseSession], ?_⟩
    rw [enterUnplanned_su]; exact heldAgrees_none

theorem motionLaw_reset (s : State) : MotionLaw (resetNode s) :=
  ⟨rfl, fun k d q hk => by cases hk⟩

theorem motionLaw_kept (c : Instr) : Kept c (fun s => PhaseLaw s ∧ MotionLaw s) := by
  have hl := (phaseLaw_loose c).kept
  exact {
    aside := fun h hs => ⟨hl.aside h hs.1, motionLaw_aside h.toAside hs.2⟩
    trip := fun k d n hd hs => ⟨hl.trip k d n hd hs.1, (motionLaw_moves c).trip k d n hd hs.2⟩
    remote := fun k n w q hp hn hs => ⟨hl.remote k n w q hp hn hs.1, motionLaw_applyHalt _ _⟩
    accept := fun k d q hr hp hn hs => ⟨hl.accept k d q hr hp hn hs.1, motionLaw_acceptSession k d q hn hs.2⟩
    pending := fun hp hs => ⟨hl.pending hp hs.1, motionLaw_applyPending hs.2⟩
    ended := fun k hp hs => ⟨hl.ended k hp hs.1, motionLaw_endSession k hs.2⟩
    clear := fun e hc hs => ⟨hl.clear e hc hs.1, motionLaw_takeClear e hs.1 hs.2⟩
    started := fun hp hph hs => ⟨hl.started hp hph hs.1, motionLaw_changePhase (by simp [phaseSession]) hs.2.2⟩
    contact := fun {s} hp hs => by
      refine ⟨hl.contact hp hs.1, ?_⟩
      unfold contactMade
      split
      · next hph =>
        have hphase := hs.2.1
        rw [hph.1] at hphase
        refine motionLaw_changePhase ?_ hs.2.2
        cases hss : s.su.session <;> simp_all [phaseSession]
      · exact hs.2
    unloaded := fun {s} p hp hs => by
      refine ⟨hl.unloaded p hp hs.1, ?_⟩
      unfold unloaded
      split
      · next hph =>
        have hphase := hs.2.1
        rw [hph.1] at hphase
        refine motionLaw_changePhase ?_ hs.2.2
        cases hss : s.su.session <;> simp_all [phaseSession]
      · exact hs.2
    arrive := fun hp hph hs => ⟨hl.arrive hp hph hs.1, motionLaw_changePhase (by simp [phaseSession]) hs.2.2⟩
    start := fun p hr hp hs => ⟨hl.start p hr hp hs.1, motionLaw_startCondition p hs.2⟩
    retract := fun {s} p hp hs => by
      refine ⟨hl.retract p hp hs.1, ?_⟩
      unfold retractCheck
      split
      · exact motionLaw_changePhase (by simp [phaseSession]) hs.2.2
      · exact hs.2
    demand := fun p v e k hr hp hv hs => ⟨hl.demand p v e k hr hp hv hs.1, hs.2⟩
    adopt := fun {s} m o hc hp hm hs =>
      ⟨hl.adopt m o hc hp hm hs.1, motionLaw_adoption (s := s.withPs { s.ps with image := m, op := o }) hs.2⟩
    reset := fun hc hs => ⟨hl.reset hc hs.1, motionLaw_reset _⟩ }

end laws

end Sys2Proof.Machine

open Sys2Proof Sys2Proof.Machine Sys2Proof.Safety

/-- Settles O55: phase, record, plan and drive agree after each shared operation, and the words on their way
follow the demand through each elementary change. -/
theorem stepKeepsPhaseLaw : Obligations.StepKeepsPhaseLaw := fun _ _ hs ht =>
  ⟨step_kept_of_next phaseLaw_aside (fun c => (phaseLaw_loose c).kept) ht hs,
    step_kept_of_next driveWordLaw_aside driveWordLaw_kept ht⟩

/-- Settles O56: a node that enters UNPLANNED is made quiet, nothing that wakes it comes without a plan, and flags
come with a halt and go with its clear. -/
theorem stepKeepsQuietAndFlags : Obligations.StepKeepsQuietAndFlags := fun _ _ hs hquiet hflags ht =>
  ⟨(step_kept_of_next (fun h hs => ⟨phaseLaw_aside h hs.1, quiet_aside h hs.1 hs.2⟩)
      (fun c => (quiet_loose c).kept) ht ⟨hs, hquiet⟩).2,
    step_kept_of_next flagsLaw_aside (fun c => (flagsLaw_loose c).kept) ht hflags⟩

/-- Settles O57: a report, an expiry, a clear and an adoption each leave a table that obeys its law. -/
theorem stepKeepsPeerLaw : Obligations.StepKeepsPeerLaw := fun _ _ hplan hpeer ht =>
  (step_kept_of_next
    (fun {s t} h hs => ⟨by rw [PlanAgrees, h.phase, h.plan]; exact hs.1, peerLaw_aside h hs.2⟩)
    peerLaw_kept ht ⟨hplan, hpeer⟩).2

/-- Settles O58: each change of phase is one that the session held permits, and each end of a session leaves the
phases that need one. -/
theorem stepKeepsMotionLaw : Obligations.StepKeepsMotionLaw := fun _ _ hlaw hs ht =>
  (step_kept_of_next (fun h hs => ⟨phaseLaw_aside h hs.1, motionLaw_aside h hs.2⟩) motionLaw_kept ht
    ⟨hlaw, hs⟩).2

/-- Settles O59: each elementary change keeps the counters in range, and a change of phase ends the timers and
counters that are not its own. -/
theorem stepKeepsCounters : Obligations.StepKeepsCounters := fun _ _ hruns hpace htimers ht =>
  step_kept_of_next countersLaw_aside countersLaw_kept ht ⟨hruns, hpace, htimers⟩

/-- Settles O27: at a halted node a trip sets a flag alone, a HALT and a flagged REPORT are ignored, and no plan
command is permitted. -/
theorem haltRecordKept : Obligations.HaltRecordKept := by
  intro c s t r hagrees hrec hreset hrestart hdone hidle hreport hclear hload hbyte hcode ht
  have hclears : clears c = false := by
    cases c with
    | idleEvent x => exact absurd rfl (hidle x)
    | transmissionComplete => exact absurd rfl hdone
    | clear n e => exact absurd rfl (hclear n e)
    | report n e b => simpa [clears] using hreport n e b rfl
    | _ => rfl
  have hresets : resets c = false := by
    cases c with
    | reset => exact absurd rfl hreset
    | restart => exact absurd rfl hrestart
    | unknownCommandCode x => exact absurd rfl (hcode x)
    | serviceByteReceived x => exact absurd rfl (hbyte x)
    | _ => rfl
  have hhalt : HoldsHalt r s := ⟨hrec, hagrees.2 (by simp [hrec])⟩
  obtain ⟨t', ht', hkept⟩ := exec_kept c (holdsHalt_loose hclears hresets hload).kept hhalt
  obtain rfl : t' = t := Host.Outcome.next.inj (ht'.symm.trans ht)
  exact hkept

end
section
namespace Sys2Proof.Machine

open Sys2Proof Sys2Proof.Safety

/-- What a column's lines delivered stands: only outputs, the ready latch and h_c may have moved. -/
theorem eq_of_measured {ci ci' : ColumnInterface} (h : measured ci' = measured ci) :
    ci' = { ci with
      transfer := ci'.transfer, nextWord := ci'.nextWord, driveEnable := ci'.driveEnable,
      brakeRelease := ci'.brakeRelease, driveNotReady := ci'.driveNotReady,
      contactHeight := ci'.contactHeight } := by
  have : { measured ci' with
      transfer := ci'.transfer, nextWord := ci'.nextWord, driveEnable := ci'.driveEnable,
      brakeRelease := ci'.brakeRelease, driveNotReady := ci'.driveNotReady,
      contactHeight := ci'.contactHeight } = { measured ci with
      transfer := ci'.transfer, nextWord := ci'.nextWord, driveEnable := ci'.driveEnable,
      brakeRelease := ci'.brakeRelease, driveNotReady := ci'.driveNotReady,
      contactHeight := ci'.contactHeight } := by rw [h]
  exact this

/-- A read that completes without a plan uses up one free value, when one was in flight (R42). -/
theorem readComplete_freeCount {s : State} (hp : s.ps.plan = none) (v : Bool) (w : Word) :
    (readComplete v w s).freeCount = s.freeCount ∨ (readComplete v w s).freeCount = s.freeCount + 1 := by
  have hkept : (readKept v w s).freeCount = s.freeCount + 1 := by simp [readKept, hp]
  unfold readComplete
  split
  · exact .inl rfl
  · next h => simp [hp] at h
  · exact .inr hkept
  · exact .inr hkept

/-- Every command leaves the count of free values but for a read without a plan (DESIGN CHOICE, log entry 4). -/
theorem Framed.freeCount {c : Instr} {s t : State} (h : Framed c s t) (ht : exec c s = .next t) :
    t.freeCount = s.freeCount ∨ (t.freeCount = s.freeCount + 1 ∧ s.ps.plan = none
      ∧ ∃ a w b f, c = .positionReadComplete a w b f) := by
  by_cases hread : IsRead c
  · obtain ⟨a, w, b, f, rfl⟩ := hread
    cases hp : s.ps.plan with
    | some p => exact .inl (h.free (.inr (by simp [hp])))
    | none =>
      obtain rfl := Host.Outcome.next.inj ht
      exact (readComplete_freeCount hp _ w).imp id fun e => ⟨e, rfl, a, w, b, f, rfl⟩
  · exact .inl (h.free (.inl fun a w b f e => hread ⟨a, w, b, f, e⟩))

end Sys2Proof.Machine

open Sys2Proof Sys2Proof.Machine Sys2Proof.Safety

/-- Settles O2: each shared operation stays within the frame of the commands that come to it, and what composes
alone leaves the receiver as it was. -/
theorem commandsKeepTheRest : Obligations.CommandsKeepTheRest := by
  intro c s
  obtain ⟨t, ht, hf⟩ := exec_kept c (framed_kept c s) (Framed.refl c s)
  refine ⟨t, ht, hf.pending, hf.freeCount ht, hf.ps, hf.pt, hf.epoch, fun hc => eq_of_measured (hf.ci hc),
    hf.sp, hf.mask, hf.computed, hf.sequence, fun hc => ?_⟩
  obtain ⟨t', ht', hj⟩ := exec_joined c s hc
  obtain rfl : t' = t := Host.Outcome.next.inj (ht'.symm.trans ht)
  exact ⟨hj.receiver.synced, hj.receiver.lineBusy, hj.receiver.run, hj.receiver.last, hj.receiver.transmitter⟩
end

section
/-! PROOFS. The plan image that adoption leaves: what it holds byte by byte, that it is adopted to itself, and that
the plan it holds is in range (R165 to R167, R186). -/

namespace Sys2Proof.Machine

open Sys2Proof Sys2Proof.Safety

/-! ### Bytes held from an offset on -/

/-- The image holds a list of bytes from an offset on. -/
def Holds (m : Memory) (a : Nat) (bs : List Byte) : Prop := ∀ i (h : i < bs.length), m.read (a + i) = bs[i]

variable {m m' : Memory} {a : Nat}

@[simp] theorem holds_nil : Holds m a [] := fun _ h => absurd h (by simp)

@[simp] theorem holds_cons {b : Byte} {bs : List Byte} :
    Holds m a (b :: bs) ↔ m.read a = b ∧ Holds m (a + 1) bs := by
  refine ⟨fun h => ⟨h 0 (by simp), fun i hi => ?_⟩, fun ⟨h0, hs⟩ i hi => ?_⟩
  · have := h (i + 1) (by simpa using hi)
    rwa [← Nat.add_assoc, Nat.add_right_comm] at this
  · cases i with
    | zero => exact h0
    | succ i =>
      have := hs i (by simpa using hi)
      rwa [Nat.add_right_comm, Nat.add_assoc] at this

theorem holds_append (xs ys : List Byte) :
    Holds m a (xs ++ ys) ↔ Holds m a xs ∧ Holds m (a + xs.length) ys := by
  induction xs generalizing a with
  | nil => simp
  | cons x xs ih => simp [ih, and_assoc, Nat.add_assoc, Nat.add_comm]

/-- An image holds the bytes that another one has at the same offsets when both read alike there. -/
theorem holds_bytes (b n : Nat) : Holds m a (m'.bytes b n) ↔ ∀ i < n, m.read (a + i) = m'.read (b + i) := by
  simp [Holds, Memory.bytes]

theorem bytes_eq_of_holds {bs : List Byte} {n : Nat} (h : Holds m a bs) (hn : bs.length = n) :
    m.bytes a n = bs := by
  refine List.ext_getElem (by simp [hn]) fun i h1 h2 => ?_
  simpa [Memory.bytes] using h i h2

/-- Lists of one length, one after the other, are held one after the other. -/
theorem holds_flatMap {α : Type} {f : α → List Byte} {k : Nat} (hf : ∀ x, (f x).length = k) (xs : List α) :
    Holds m a (xs.flatMap f) ↔ ∀ i (h : i < xs.length), Holds m (a + k * i) (f xs[i]) := by
  induction xs generalizing a with
  | nil => simp
  | cons x xs ih =>
    rw [List.flatMap_cons, holds_append, ih, hf]
    refine ⟨fun ⟨h0, hs⟩ i hi => ?_, fun h => ⟨h 0 (by simp), fun i hi => ?_⟩⟩
    · cases i with
      | zero => exact h0
      | succ i =>
        have := hs i (by simpa using hi)
        rwa [Nat.add_assoc, Nat.add_comm k, ← Nat.mul_succ] at this
    · have := h (i + 1) (by simpa using hi)
      rwa [Nat.mul_succ, Nat.add_comm (k * i), ← Nat.add_assoc] at this

theorem wordOf_wordBytes (w : Word) : wordOf (hiByte w) (loByte w) = w := by
  refine BitVec.eq_of_getLsbD_eq fun i hi => ?_
  change BitVec.getLsbD (w := 8 + 8) (w.extractLsb' 8 8 ++ w.extractLsb' 0 8) i = w.getLsbD i
  rw [BitVec.getLsbD_append]
  by_cases h : i < 8
  · simp [h]
  · have hlt : i - 8 < 8 := by omega
    have heq : 8 + (i - 8) = i := by omega
    simp [h, hlt, heq]

theorem holds_natBytes {n : Nat} (h : Holds m a (natBytes n)) (hn : n < 65536) :
    (m.read16 a).toNat = n := by
  obtain ⟨h1, h2, -⟩ := by simpa only [natBytes, wordBytes, holds_cons] using h
  rw [Memory.read16, h1, h2, wordOf_wordBytes, BitVec.toNat_ofNat]
  exact Nat.mod_eq_of_lt hn

/-- What the bytes of an image hold, the image holds. -/
theorem holds_adoptedImage (m : Memory) : Holds (adoptedImage m) 0 (adoptedBytes m) := by
  intro i hi
  rw [adoptedImage_read, Nat.zero_add, List.getD_eq_getElem?_getD, List.getElem?_eq_getElem hi]
  rfl

/-! ### The image that adoption leaves, section by section -/

/-- The image that adoption leaves holds each section sealed, and between the sections what was written. -/
structure Adopted (m m' : Memory) : Prop where
  sealed : ∀ sec, Holds m' (sectionSpan sec).1 (sealedSection m (planOf m) sec)
  gap0 : ∀ i < 3, m'.read (0x0D + i) = m.read (0x0D + i)
  gap1 : ∀ i < 8, m'.read (0x28 + i) = m.read (0x28 + i)
  gap2 : ∀ i < 2, m'.read (0x5E + i) = m.read (0x5E + i)
  gap3 : ∀ i < 3, m'.read (0x6D + i) = m.read (0x6D + i)
  gap4 : ∀ i < 124, m'.read (0x84 + i) = m.read (0x84 + i)

theorem sealedSection_length (m : Memory) (sec : PlanSection) :
    (sealedSection m (planOf m) sec).length = (sectionSpan sec).2 + 1 := by
  simp [sealedSection, clampedSection_length]

theorem adoptedImage_adopted (m : Memory) : Adopted m (adoptedImage m) := by
  have h := holds_adoptedImage m
  simp only [adoptedBytes, holds_append, List.length_append, sealedSection_length, Memory.bytes_length,
    sectionSpan, holds_bytes, Nat.reduceAdd, Nat.zero_add] at h
  obtain ⟨⟨⟨⟨⟨⟨⟨⟨⟨h0, g0⟩, h1⟩, g1⟩, h2⟩, g2⟩, h3⟩, g3⟩, h4⟩, g4⟩ := h
  refine ⟨fun sec => ?_, g0, g1, g2, g3, g4⟩
  cases sec with
  | identity => exact h0
  | set => exact h1
  | pace => exact h2
  | column => exact h3
  | neighbours => exact h4

section adopted

variable (h : Adopted m m')
include h

/-- The covered bytes of a section are the clamped ones. -/
theorem Adopted.section_holds (sec : PlanSection) :
    Holds m' (sectionSpan sec).1 (clampedSection m (planOf m) sec) := by
  have := h.sealed sec
  rw [sealedSection, holds_append] at this
  exact this.1

theorem Adopted.checksumByte (sec : PlanSection) :
    checksumByte m' sec = checksum (clampedSection m (planOf m) sec) := by
  have := h.sealed sec
  rw [sealedSection, holds_append, clampedSection_length] at this
  exact (holds_cons.1 this.2).1

/-- Each section passes its checksum (R161, R167). -/
theorem Adopted.sectionPasses (sec : PlanSection) : sectionPasses m' sec = true := by
  have hbytes : sectionBytes m' sec = clampedSection m (planOf m) sec :=
    bytes_eq_of_holds (h.section_holds sec) (clampedSection_length m sec)
  simp [Machine.sectionPasses, hbytes, h.checksumByte]

theorem Adopted.identity {i : Nat} (hi : i < 12) : m'.read i = m.read i := by
  have := h.section_holds .identity
  simp only [sectionSpan, clampedSection, holds_bytes, Nat.zero_add] at this
  exact this i hi

/-- SET: membership and the fields with no clamp stand, and five bytes are clamped. -/
theorem Adopted.set :
    (∀ i < 8, m'.read (0x10 + i) = m.read (0x10 + i))
      ∧ m'.read 0x18 = byteOf (planOf m).periodCode ∧ m'.read 0x19 = byteOf (planOf m).kSil
      ∧ m'.read 0x1A = byteOf (planOf m).kKeep ∧ m'.read 0x1B = byteOf (planOf m).contactTimeout
      ∧ m'.read 0x1C = byteOf (planOf m).stallLimit
      ∧ ∀ i < 10, m'.read (0x1D + i) = m.read (0x1D + i) := by
  have hs := h.section_holds .set
  simp only [sectionSpan, clampedSection, holds_append, holds_cons, holds_bytes, List.length_append,
    Memory.bytes_length, List.length_cons, List.length_nil, Nat.reduceAdd] at hs
  obtain ⟨⟨hm, h1, h2, h3, h4, h5, -⟩, hrest⟩ := hs
  exact ⟨hm, h1, h2, h3, h4, h5, hrest⟩

/-- PACE: speeds, thresholds and the clamped numbers stand as the plan has them. -/
theorem Adopted.pace :
    (∀ k : Fin 8, Holds m' (0x30 + 2 * k.val) (natBytes (clampedSpeed m k.val)))
      ∧ (∀ k : Fin 8, Holds m' (0x40 + 2 * k.val) (natBytes (clampedThreshold m k.val)))
      ∧ m'.read 0x50 = byteOf (planOf m).sMax ∧ Holds m' 0x51 (natBytes (planOf m).window)
      ∧ Holds m' 0x53 (natBytes (planOf m).creep) ∧ Holds m' 0x55 (natBytes (planOf m).approach)
      ∧ Holds m' 0x57 (natBytes (planOf m).retract) ∧ ∀ i < 4, m'.read (0x59 + i) = m.read (0x59 + i) := by
  have hs := h.section_holds .pace
  simp only [sectionSpan, clampedSection, holds_append, holds_cons, holds_bytes, holds_flatMap natBytes_length,
    List.length_append, flatMap_length_const natBytes 2 natBytes_length, Vector.length_toList,
    natBytes_length, List.length_cons, List.length_nil, Nat.reduceAdd, Nat.reduceMul] at hs
  obtain ⟨⟨⟨⟨⟨⟨⟨hv, ht⟩, h1, -⟩, h2⟩, h3⟩, h4⟩, h5⟩, hrest⟩ := hs
  refine ⟨fun k => ?_, fun k => ?_, h1, h2, h3, h4, h5, hrest⟩
  · simpa [planOf] using hv k.val k.isLt
  · simpa [planOf] using ht k.val k.isLt

/-- COLUMN: the travel window, the parked height and the contact level are clamped. -/
theorem Adopted.column :
    (∀ i < 2, m'.read (0x60 + i) = m.read (0x60 + i)) ∧ Holds m' 0x62 (natBytes (planOf m).lo)
      ∧ Holds m' 0x64 (natBytes (planOf m).hi) ∧ Holds m' 0x66 (natBytes (planOf m).parked)
      ∧ (∀ i < 2, m'.read (0x68 + i) = m.read (0x68 + i))
      ∧ Holds m' 0x6A (natBytes (planOf m).contactLevel) := by
  have hs := h.section_holds .column
  simp only [sectionSpan, clampedSection, holds_append, holds_bytes, List.length_append,
    natBytes_length, Memory.bytes_length, Nat.reduceAdd] at hs
  obtain ⟨⟨⟨⟨⟨h1, h2⟩, h3⟩, h4⟩, h5⟩, h6⟩ := hs
  exact ⟨h1, h2, h3, h4, h5, h6⟩

/-- NEIGHBOURS: the kept entries, then the dropped ones blanked, then what was written beyond the count. -/
theorem Adopted.neighbours :
    m'.read 0x70 = byteOf (planOf m).neighbours.length
      ∧ (∀ i (hi : i < (planOf m).neighbours.length),
          Holds m' (0x71 + 3 * i) (neighbourBytes (planOf m).neighbours[i]))
      ∧ Holds m' (0x71 + 3 * (planOf m).neighbours.length)
          ((List.replicate (neighbourCount m - (planOf m).neighbours.length) [0xFF, 0x00, 0x00]).flatten
            ++ m.bytes (0x71 + 3 * neighbourCount m) (3 * (6 - neighbourCount m))) := by
  have hs := h.section_holds .neighbours
  rw [sectionSpan, clampedSection, List.cons_append, List.cons_append, List.append_assoc, holds_cons,
    holds_append, holds_flatMap neighbourBytes_length,
    flatMap_length_const neighbourBytes 3 neighbourBytes_length] at hs
  obtain ⟨hcount, hkept, hrest⟩ := hs
  refine ⟨hcount, hkept, ?_⟩
  rwa [Nat.mul_comm] at hrest

end adopted

/-! ### The clamps (R166) -/

theorem clampNat_bounds {lo hi : Nat} (h : lo ≤ hi) (x : Nat) : lo ≤ clampNat lo hi x ∧ clampNat lo hi x ≤ hi := by
  unfold clampNat; omega

theorem clampNat_of_mem {lo hi x : Nat} (h1 : lo ≤ x) (h2 : x ≤ hi) : clampNat lo hi x = x := by
  unfold clampNat; omega

theorem clampedSpeed_le (m : Memory) (k : Nat) : clampedSpeed m k ≤ 6000 := by
  induction k with
  | zero => simp [clampedSpeed]
  | succ k ih => simp [clampedSpeed, ih]

theorem clampedSpeed_mono (m : Memory) (k : Nat) : clampedSpeed m k ≤ clampedSpeed m (k + 1) := by
  simp [clampedSpeed]

theorem clampedThreshold_le (m : Memory) (k : Nat) : clampedThreshold m k ≤ 65535 := by
  induction k with
  | zero => simp [clampedThreshold]
  | succ k ih => simp only [clampedThreshold]; omega

theorem clampedThreshold_anti (m : Memory) (k : Nat) : clampedThreshold m (k + 1) ≤ clampedThreshold m k := by
  simp [clampedThreshold]

theorem read16_le (m : Memory) (a : Nat) : (m.read16 a).toNat ≤ 65535 := by
  have := (m.read16 a).isLt; omega

theorem clampedHi_bounds (m : Memory) : clampedLo m < clampedHi m ∧ clampedHi m ≤ 65535 := by
  have := read16_le m 0x64
  unfold clampedHi clampedLo
  split <;> omega

/-- The neighbours that are kept stand apart from the own number, from each other and from those seen, and lie in
the membership (R166). -/
structure Apart (own : NodeNum) (ms : BitVec 64) (seen : List NodeNum) (ns : List Neighbour) : Prop where
  nodup : (ns.map (·.node)).Nodup
  own : ∀ n ∈ ns, n.node ≠ own
  member : ∀ n ∈ ns, ms.getLsbD n.node.val = true
  unseen : ∀ n ∈ ns, n.node ∉ seen

theorem apart_keepNeighbours (own : NodeNum) (ms : BitVec 64) (seen : List NodeNum) (l : List (Byte × Nat)) :
    Apart own ms seen (keepNeighbours own ms seen l) := by
  induction l generalizing seen with
  | nil => exact ⟨List.nodup_nil, by simp [keepNeighbours], by simp [keepNeighbours], by simp [keepNeighbours]⟩
  | cons x l ih =>
    obtain ⟨b, t⟩ := x
    rw [keepNeighbours]
    split
    · exact ih seen
    · next n _ =>
      split
      · exact ih seen
      · next hc =>
        simp only [not_or, Bool.not_eq_false] at hc
        obtain ⟨hown, hmem, hseen⟩ := hc
        obtain ⟨hnodup, hown', hmem', hunseen⟩ := ih (n :: seen)
        refine ⟨?_, ?_, ?_, ?_⟩
        · rw [List.map_cons, List.nodup_cons]
          refine ⟨fun hin => ?_, hnodup⟩
          obtain ⟨x, hx, e⟩ := List.mem_map.1 hin
          exact hunseen x hx (by simp [e])
        · simpa using ⟨hown, hown'⟩
        · simpa using ⟨hmem, hmem'⟩
        · simp only [List.forall_mem_cons]
          exact ⟨hseen, fun x hx hin => hunseen x hx (List.mem_cons_of_mem _ hin)⟩

/-- The tolerances kept are among those written. -/
theorem tolerance_keepNeighbours (own : NodeNum) (ms : BitVec 64) (seen : List NodeNum) (l : List (Byte × Nat)) :
    ∀ n ∈ keepNeighbours own ms seen l, ∃ x ∈ l, x.2 = n.tolerance := by
  induction l generalizing seen with
  | nil => simp [keepNeighbours]
  | cons x l ih =>
    have weaken (seen' : List NodeNum) : ∀ n ∈ keepNeighbours own ms seen' l, ∃ y ∈ x :: l, y.2 = n.tolerance :=
      fun n hn => (ih seen' n hn).imp fun _ ⟨hy, e⟩ => ⟨List.mem_cons_of_mem x hy, e⟩
    obtain ⟨b, t⟩ := x
    rw [keepNeighbours]
    split
    · exact weaken seen
    · split
      · exact weaken seen
      · intro n hn
        rcases List.mem_cons.1 hn with rfl | hn
        · exact ⟨_, List.mem_cons_self, rfl⟩
        · exact weaken _ n hn

theorem nodeOfByte_byteOf (n : NodeNum) : nodeOfByte (byteOf n.val) = some n := by
  have h : n.val % 256 = n.val := Nat.mod_eq_of_lt (by omega)
  simp [nodeOfByte, byteOf, h]

/-- What has been kept is kept again. -/
theorem keepNeighbours_again {own : NodeNum} {ms : BitVec 64} {seen : List NodeNum} {ns : List Neighbour}
    (h : Apart own ms seen ns) :
    keepNeighbours own ms seen (ns.map (fun n => (byteOf n.node.val, n.tolerance))) = ns := by
  induction ns generalizing seen with
  | nil => rfl
  | cons n ns ih =>
    obtain ⟨hnodup, hown, hmem, hunseen⟩ := h
    rw [List.map_cons, List.nodup_cons] at hnodup
    obtain ⟨hnot, hnodup⟩ := hnodup
    have hc : ¬ (n.node = own ∨ ms.getLsbD n.node.val = false ∨ n.node ∈ seen) := by
      simp [hown n List.mem_cons_self, hmem n List.mem_cons_self, hunseen n List.mem_cons_self]
    rw [List.map_cons, keepNeighbours, nodeOfByte_byteOf]
    simp only [hc, if_false]
    rw [ih]
    refine ⟨hnodup, fun x hx => hown x (List.mem_cons_of_mem _ hx),
      fun x hx => hmem x (List.mem_cons_of_mem _ hx), fun x hx hin => ?_⟩
    rcases List.mem_cons.1 hin with e | hin
    · exact hnot (List.mem_map.2 ⟨x, hx, e⟩)
    · exact hunseen x (List.mem_cons_of_mem _ hx) hin

theorem planOf_apart (m : Memory) :
    Apart (planOf m).node (planOf m).membership [] (planOf m).neighbours :=
  apart_keepNeighbours _ _ _ _

theorem planOf_tolerance (m : Memory) : ∀ n ∈ (planOf m).neighbours, n.tolerance < 65536 := by
  intro n hn
  obtain ⟨x, hx, e⟩ := tolerance_keepNeighbours _ _ _ _ n hn
  obtain ⟨i, -, rfl⟩ := List.mem_map.1 hx
  rw [← e]
  exact (m.read16 _).isLt

/-- A plan whose image passes the checks is in range (R165, R166). -/
theorem planInRange_planOf (hf : failingCheck m = none) : PlanInRange (planOf m) := by
  obtain ⟨hnodup, hown, hmember, -⟩ := planOf_apart m
  obtain ⟨hle, hsix⟩ := planOf_neighbours_length m
  obtain ⟨hlo, hhi⟩ := clampedHi_bounds m
  have hcontact := read16_le m 0x6A
  have hparked := read16_le m 0x66
  refine ⟨Nat.min_le_left _ _, clampNat_bounds (by decide) _, clampNat_bounds (by decide) _,
    clampNat_bounds (by decide) _, clampNat_bounds (by decide) _, fun k => ?_, fun k => ?_, ?_, fun k => ?_,
    clampNat_bounds (by decide) _, clampNat_bounds (by decide) _, ?_, ?_, ?_, hlo, hhi, Nat.le_max_left _ _, ?_,
    Nat.le_max_left _ _, hle.trans hsix, hnodup, fun n hn => ⟨hown n hn, hmember n hn⟩, planOf_member hf⟩
  · simpa [planOf] using clampedSpeed_le m k.val
  · simpa [planOf] using clampedSpeed_mono m k.val
  · simp [planOf, clampedThreshold]
  · simpa [planOf] using clampedThreshold_anti m k.val
  · simp [planOf]
  · simp [planOf]
  · simp [planOf]
  · simp only [planOf]; omega

end Sys2Proof.Machine
end

section
/-! PROOFS. Adoption is stable, and every step keeps the Plan Store's laws (R158, R162, R165 to R169). -/

namespace Sys2Proof.Machine

open Sys2Proof Sys2Proof.Safety

variable {m m' : Memory}

theorem read_congr_of_add {a n : Nat} (h : ∀ i < n, m'.read (a + i) = m.read (a + i)) {b : Nat} (hab : a ≤ b)
    (hb : b < a + n) : m'.read b = m.read b := by
  have := h (b - a) (by omega)
  rwa [Nat.add_sub_cancel' hab] at this

theorem read16_congr_of_add {a n : Nat} (h : ∀ i < n, m'.read (a + i) = m.read (a + i)) {b : Nat} (hab : a ≤ b)
    (hb : b + 1 < a + n) : m'.read16 b = m.read16 b := by
  rw [Memory.read16, Memory.read16, read_congr_of_add h hab (by omega), read_congr_of_add h (by omega) hb]

theorem bytes_congr_of_add {a n : Nat} (h : ∀ i < n, m'.read (a + i) = m.read (a + i)) {b k : Nat} (hab : a ≤ b)
    (hb : b + k ≤ a + n) : m'.bytes b k = m.bytes b k := by
  refine List.map_congr_left fun x hx => ?_
  obtain ⟨h1, h2⟩ := List.mem_range'_1.1 hx
  exact read_congr_of_add h (by omega) (by omega)

theorem byteOf_toNat {n : Nat} (h : n < 256) : (byteOf n).toNat = n := by
  simp [byteOf, Nat.mod_eq_of_lt h]

/-- A clamped byte is clamped to itself. -/
theorem clampNat_again {a lo hi x : Nat} (ha : m'.read a = byteOf (clampNat lo hi x)) (hlo : lo ≤ hi)
    (hhi : hi < 256) : clampNat lo hi (m'.read a).toNat = clampNat lo hi x := by
  obtain ⟨h1, h2⟩ := clampNat_bounds hlo x
  rw [ha, byteOf_toNat (by omega), clampNat_of_mem h1 h2]

section adopted

variable (h : Adopted m m')
include h

theorem Adopted.clampedSpeed_eq (k : Nat) (hk : k < 8) : clampedSpeed m' k = clampedSpeed m k := by
  obtain ⟨hrow, -⟩ := h.pace
  have hread (j : Nat) (hj : j < 8) : rowNat m' 0x30 j = clampedSpeed m j := by
    have := clampedSpeed_le m j
    exact holds_natBytes (hrow ⟨j, hj⟩) (by omega)
  induction k with
  | zero =>
    have := clampedSpeed_le m 0
    rw [clampedSpeed, hread 0 hk]; omega
  | succ k ih =>
    have hle := clampedSpeed_le m (k + 1)
    have hmono := clampedSpeed_mono m k
    rw [clampedSpeed, ih (by omega), hread (k + 1) hk]; omega

theorem Adopted.clampedThreshold_eq (k : Nat) (hk : k < 8) :
    clampedThreshold m' k = clampedThreshold m k := by
  obtain ⟨-, hrow, -⟩ := h.pace
  induction k with
  | zero => rfl
  | succ k ih =>
    have hle := clampedThreshold_le m (k + 1)
    have hanti := clampedThreshold_anti m k
    have hread : rowNat m' 0x40 (k + 1) = clampedThreshold m (k + 1) :=
      holds_natBytes (hrow ⟨k + 1, hk⟩) (by omega)
    rw [clampedThreshold, ih (by omega), hread]; omega

theorem Adopted.imageNode_eq : imageNode m' = imageNode m := by
  rw [imageNode, imageNode, h.identity (by omega)]

theorem Adopted.imageMembership_eq : imageMembership m' = imageMembership m := by
  obtain ⟨hs, -⟩ := h.set
  rw [imageMembership, imageMembership, bytes_congr_of_add hs (by omega) (by omega)]

/-- The count written is that of the kept neighbours. -/
theorem Adopted.neighbourCount_eq : neighbourCount m' = (planOf m).neighbours.length := by
  obtain ⟨hcount, -⟩ := h.neighbours
  obtain ⟨hle, hsix⟩ := planOf_neighbours_length m
  rw [neighbourCount, hcount, byteOf_toNat (by omega)]; omega

/-- The entries written are the kept ones. -/
theorem Adopted.writtenNeighbours_eq :
    writtenNeighbours m' = (planOf m).neighbours.map (fun n => (byteOf n.node.val, n.tolerance)) := by
  obtain ⟨-, hkept, -⟩ := h.neighbours
  rw [writtenNeighbours, h.neighbourCount_eq]
  refine List.ext_getElem (by simp) fun i h1 h2 => ?_
  have hi : i < (planOf m).neighbours.length := by simpa using h2
  have hentry := hkept i hi
  rw [neighbourBytes, holds_cons] at hentry
  obtain ⟨hnode, htol⟩ := hentry
  have htol' := holds_natBytes htol (planOf_tolerance m _ (List.getElem_mem hi))
  simp only [List.getElem_map, List.getElem_range]
  rw [hnode, ← htol', Nat.add_right_comm]

theorem Adopted.neighbours_eq : (planOf m').neighbours = (planOf m).neighbours := by
  have : (planOf m').neighbours = keepNeighbours (imageNode m) (imageMembership m) [] (writtenNeighbours m') := by
    simp only [planOf, h.imageNode_eq, h.imageMembership_eq]
  rw [this, h.writtenNeighbours_eq]
  exact keepNeighbours_again (planOf_apart m)

theorem Adopted.clampedLo_eq : clampedLo m' = clampedLo m := by
  obtain ⟨-, hlo, -⟩ := h.column
  have hle : clampedLo m ≤ 65534 := Nat.min_le_left _ _
  have hread : (m'.read16 0x62).toNat = clampedLo m := holds_natBytes hlo (Nat.lt_of_le_of_lt hle (by omega))
  rw [clampedLo, hread]; omega

theorem Adopted.clampedHi_eq : clampedHi m' = clampedHi m := by
  obtain ⟨-, -, hhi, -⟩ := h.column
  obtain ⟨hlt, hle⟩ := clampedHi_bounds m
  have hread : (m'.read16 0x64).toNat = clampedHi m := holds_natBytes hhi (Nat.lt_of_le_of_lt hle (by omega))
  rw [clampedHi, hread, h.clampedLo_eq, if_neg (by omega)]

/-- A speed of APPROACH or RETRACT is clamped to itself: it is at most V[8], and 0 only when V[8] is. -/
theorem Adopted.travelSpeed_eq {a x : Nat} (ha : Holds m' a (natBytes (min (max 1 x) (clampedSpeed m 7)))) :
    min (max 1 (m'.read16 a).toNat) (clampedSpeed m' 7) = min (max 1 x) (clampedSpeed m 7) := by
  have hle := clampedSpeed_le m 7
  rw [holds_natBytes ha (by omega), h.clampedSpeed_eq 7 (by omega)]; omega

/-- The image that adoption leaves holds the plan that it was adopted for (R167). -/
theorem Adopted.planOf_eq : planOf m' = planOf m := by
  obtain ⟨-, hperiod, hsil, hkeep, hcontact, hstall, hset⟩ := h.set
  obtain ⟨-, -, hsmax, hwindow, hcreep, happroach, hretract, hpace⟩ := h.pace
  obtain ⟨hdatum, -, -, hparked, hrating, hlevel⟩ := h.column
  have hname : m'.bytes 0x04 8 = m.bytes 0x04 8 :=
    bytes_congr_of_add (a := 0) (n := 12) (fun i hi => by simpa using h.identity hi) (by omega) (by omega)
  have hperiod' : min 3 (m'.read 0x18).toNat = min 3 (m.read 0x18).toNat := by
    have : m'.read 0x18 = byteOf (min 3 (m.read 0x18).toNat) := hperiod
    rw [this, byteOf_toNat (by omega)]; omega
  have hwindow' : clampNat 4 400 (m'.read16 0x51).toNat = clampNat 4 400 (m.read16 0x51).toNat := by
    obtain ⟨h1, h2⟩ := clampNat_bounds (lo := 4) (hi := 400) (by decide) (m.read16 0x51).toNat
    have : (m'.read16 0x51).toNat = clampNat 4 400 (m.read16 0x51).toNat := holds_natBytes hwindow (by
      exact Nat.lt_of_le_of_lt h2 (by decide))
    rw [this, clampNat_of_mem h1 h2]
  have hcreep' : min (m'.read16 0x53).toNat (clampedSpeed m' 0) = min (m.read16 0x53).toNat (clampedSpeed m 0) := by
    have hle := clampedSpeed_le m 0
    have : (m'.read16 0x53).toNat = min (m.read16 0x53).toNat (clampedSpeed m 0) :=
      holds_natBytes hcreep (Nat.lt_of_le_of_lt (Nat.min_le_right _ _) (by omega))
    rw [this, h.clampedSpeed_eq 0 (by omega)]; omega
  have hparked' : max (clampedLo m') (m'.read16 0x66).toNat = max (clampedLo m) (m.read16 0x66).toNat := by
    have hlo : clampedLo m ≤ 65534 := Nat.min_le_left _ _
    have hle := read16_le m 0x66
    have : (m'.read16 0x66).toNat = max (clampedLo m) (m.read16 0x66).toNat :=
      holds_natBytes hparked (Nat.lt_of_le_of_lt (Nat.max_le.2 ⟨hlo.trans (by omega), hle⟩) (by omega))
    rw [this, h.clampedLo_eq]; omega
  have hlevel' : max 1 (m'.read16 0x6A).toNat = max 1 (m.read16 0x6A).toNat := by
    have hle := read16_le m 0x6A
    have : (m'.read16 0x6A).toNat = max 1 (m.read16 0x6A).toNat :=
      holds_natBytes hlevel (Nat.lt_of_le_of_lt (Nat.max_le.2 ⟨by omega, hle⟩) (by omega))
    rw [this]; omega
  have hspeeds : (Vector.ofFn fun k : Fin 8 => clampedSpeed m' k.val) = Vector.ofFn fun k => clampedSpeed m k.val :=
    congrArg Vector.ofFn (funext fun k => h.clampedSpeed_eq k.val k.isLt)
  have hthresholds : (Vector.ofFn fun k : Fin 8 => clampedThreshold m' k.val)
      = Vector.ofFn fun k => clampedThreshold m k.val :=
    congrArg Vector.ofFn (funext fun k => h.clampedThreshold_eq k.val k.isLt)
  have hpresets : (Vector.ofFn fun i : Fin 4 => m'.read16 (0x1F + 2 * i.val))
      = Vector.ofFn fun i : Fin 4 => m.read16 (0x1F + 2 * i.val) :=
    congrArg Vector.ofFn (funext fun i => read16_congr_of_add hset (by omega) (by omega))
  have hneighbours : keepNeighbours (imageNode m') (imageMembership m') [] (writtenNeighbours m')
      = keepNeighbours (imageNode m) (imageMembership m) [] (writtenNeighbours m) := h.neighbours_eq
  unfold planOf
  rw [hneighbours, h.imageNode_eq, h.imageMembership_eq, hname, hperiod', hwindow', hcreep', hparked', hlevel',
    hspeeds, hthresholds, hpresets, h.clampedLo_eq, h.clampedHi_eq, h.travelSpeed_eq happroach,
    h.travelSpeed_eq hretract, clampNat_again hsil (by decide) (by decide),
    clampNat_again hkeep (by decide) (by decide), clampNat_again hcontact (by decide) (by decide),
    clampNat_again hstall (by decide) (by decide), clampNat_again hsmax (by decide) (by decide),
    read16_congr_of_add hset (b := 0x1D) (by omega) (by omega),
    read16_congr_of_add hpace (b := 0x59) (by omega) (by omega),
    read16_congr_of_add hpace (b := 0x5B) (by omega) (by omega),
    read16_congr_of_add hdatum (b := 0x60) (by omega) (by omega),
    read16_congr_of_add hrating (b := 0x68) (by omega) (by omega)]

/-- The image that adoption leaves passes every check when the one it found did (R165, R167). -/
theorem Adopted.failingCheck_eq_none (hf : failingCheck m = none) : failingCheck m' = none := by
  have hsums : allSections.find? (fun sec => !Machine.sectionPasses m' sec) = none :=
    List.find?_eq_none.2 fun sec _ => by simp [h.sectionPasses sec]
  unfold failingCheck at hf ⊢
  rw [h.identity (i := 0) (by omega), h.identity (i := 1) (by omega), h.identity (i := 2) (by omega),
    h.identity (i := 3) (by omega), h.imageMembership_eq, hsums]
  split at hf
  · cases hf
  · next htag =>
    rw [if_neg htag]
    split at hf
    · cases hf
    · next hversion =>
      rw [if_neg hversion]
      split at hf
      · cases hf
      · exact hf

/-- What the sections hold is what a second adoption writes into them. -/
theorem Adopted.clampedSection_eq (sec : PlanSection) :
    clampedSection m' (planOf m') sec = clampedSection m (planOf m) sec := by
  rw [h.planOf_eq]
  cases sec with
  | identity =>
    exact bytes_congr_of_add (a := 0) (n := 12) (fun i hi => by simpa using h.identity hi) (by omega) (by omega)
  | set =>
    obtain ⟨hm, -, -, -, -, -, hset⟩ := h.set
    simp only [clampedSection, bytes_congr_of_add hm (b := 0x10) (k := 8) (by omega) (by omega),
      bytes_congr_of_add hset (b := 0x1D) (k := 10) (by omega) (by omega)]
  | pace =>
    obtain ⟨-, -, -, -, -, -, -, hpace⟩ := h.pace
    simp only [clampedSection, bytes_congr_of_add hpace (b := 0x59) (k := 4) (by omega) (by omega)]
  | column =>
    obtain ⟨hdatum, -, -, -, hrating, -⟩ := h.column
    simp only [clampedSection, bytes_congr_of_add hdatum (b := 0x60) (k := 2) (by omega) (by omega),
      bytes_congr_of_add hrating (b := 0x68) (k := 2) (by omega) (by omega)]
  | neighbours =>
    obtain ⟨-, -, hrest⟩ := h.neighbours
    obtain ⟨hle, hsix⟩ := planOf_neighbours_length m
    have hlen : ((List.replicate (neighbourCount m - (planOf m).neighbours.length) [0xFF, 0x00, 0x00]).flatten
        ++ m.bytes (0x71 + 3 * neighbourCount m) (3 * (6 - neighbourCount m)) : List Byte).length
        = 3 * (6 - (planOf m).neighbours.length) := by
      simp; omega
    have hbytes := bytes_eq_of_holds hrest hlen
    simp only [clampedSection, h.neighbourCount_eq, Nat.sub_self, List.replicate_zero, List.flatten_nil,
      List.append_nil, hbytes, List.append_assoc]

theorem Adopted.adoptedBytes_eq : adoptedBytes m' = adoptedBytes m := by
  have hsealed (sec : PlanSection) : sealedSection m' (planOf m') sec = sealedSection m (planOf m) sec := by
    rw [sealedSection, sealedSection, h.clampedSection_eq]
  simp only [adoptedBytes, hsealed,
    bytes_congr_of_add h.gap0 (b := 0x0D) (k := 3) (by omega) (by omega),
    bytes_congr_of_add h.gap1 (b := 0x28) (k := 8) (by omega) (by omega),
    bytes_congr_of_add h.gap2 (b := 0x5E) (k := 2) (by omega) (by omega),
    bytes_congr_of_add h.gap3 (b := 0x6D) (k := 3) (by omega) (by omega),
    bytes_congr_of_add h.gap4 (b := 0x84) (k := 124) (by omega) (by omega)]

end adopted

/-! ### The laws of the Plan Store -/

/-- The Plan Store obeys its laws and the demand its bound (R111, R158, R162, R166, R167, R169). -/
def StoreLaw (s : State) : Prop := PlanLaw s ∧ ImageLaw s ∧ AdoptedLaw s ∧ AdoptedImageLaw s

variable {s : State} {c : Instr}

/-- Plan Store and demand decide the law. -/
theorem storeLaw_congr {t : State} (hps : t.ps = s.ps) (hd : t.pu.demand = s.pu.demand) (h : StoreLaw s) :
    StoreLaw t := by
  unfold StoreLaw PlanLaw ImageLaw AdoptedLaw AdoptedImageLaw at h ⊢
  rw [hps, hd]; exact h

theorem storeLaw_aside {t : State} (h : Aside s t) (hs : StoreLaw s) : StoreLaw t := by
  obtain ⟨⟨hrange, hdemand⟩, himage, ⟨hflag, hplan⟩, hadopted⟩ := hs
  have hpl : PlanLaw t := ⟨by rw [h.plan]; exact hrange, by rw [h.demand]; exact hdemand⟩
  rcases h.store with ⟨e1, e2, e3⟩ | ⟨e1, e2, hwf⟩
  · refine ⟨hpl, ?_, ?_, ?_⟩
    · rw [ImageLaw, e1]; exact himage
    · rw [AdoptedLaw, e2, e3, h.plan]; exact ⟨hflag, hplan⟩
    · rw [AdoptedImageLaw, e1, e2, e3, h.plan]; exact hadopted
  · exact ⟨hpl, hwf himage, by simp [AdoptedLaw, e1, e2], by simp [AdoptedImageLaw, e1]⟩

theorem speedOf_le {p : Plan} (h : PlanInRange p) (k : Step) : speedOf p k ≤ 6000 := by
  obtain ⟨-, -, -, -, -, hspeeds, -⟩ := h
  exact hspeeds k

theorem throttle_le_max (p : Plan) (v e : Nat) : throttle p v e ≤ max v p.creep := by
  unfold throttle
  split
  · exact Nat.zero_le _
  · next hw =>
    have hdiv : v * (p.window - e) / p.window ≤ v :=
      Nat.div_le_of_le_mul (by rw [Nat.mul_comm]; exact Nat.mul_le_mul_right v (Nat.sub_le _ _))
    omega

/-- No demand exceeds 6,000 su (R111). -/
theorem demandOf_natAbs_le {p : Plan} (h : PlanInRange p) (s : State) {v : Nat} {k : Step}
    (hv : v ≤ speedOf p k) (e : Nat) : (demandOf p s v e).1.natAbs ≤ 6000 := by
  have hle := speedOf_le h k
  have hthrottle := throttle_le_max p v e
  obtain ⟨-, -, -, -, -, hspeeds, -, -, -, -, -, hcreep, happroach, hretract, -⟩ := h
  have h0 : p.speeds[0] ≤ 6000 := hspeeds 0
  have h7 : p.speeds[7] ≤ 6000 := hspeeds 7
  unfold demandOf
  split
  · split
    · simp
    · simp only [Int.natAbs_natCast]; omega
  · split
    · simp
    · simp only [Int.natAbs_neg, Int.natAbs_natCast]; omega
  · split
    · simp
    · simp only [Int.natAbs_natCast]; omega
  · simp only [Int.natAbs_neg, Int.natAbs_natCast]; omega
  all_goals simp

theorem storeLaw_elementary (c : Instr) : Elementary c StoreLaw where
  aside h := storeLaw_aside h.toAside
  record _ hs := hs
  flags _ _ hs := hs
  safe {s} hs := by
    obtain ⟨⟨hrange, -⟩, hrest⟩ := hs
    exact ⟨⟨hrange, by simp⟩, hrest⟩
  drive _ hs := hs
  enter new _ _ hs := storeLaw_congr (by simp) (by simp) hs
  session _ _ _ hs := hs

/-- A plan put into force is in range and is that of its image (R162, R166, R167). -/
theorem storeLaw_handedOver (hf : failingCheck s.ps.image = none) (hd : s.pu.demand.natAbs ≤ 6000) :
    StoreLaw (handedOver s) := by
  have hadopted := adoptedImage_adopted s.ps.image
  refine ⟨⟨?_, ?_⟩, ?_, ?_, ?_⟩
  · simpa using planInRange_planOf hf
  · simpa [paceAdopt] using hd
  · simpa [ImageLaw] using adoptedImage_wf s.ps.image
  · simp [AdoptedLaw]
  · simp [AdoptedImageLaw, hadopted.failingCheck_eq_none hf, hadopted.planOf_eq]

/-- A refused plan is not in force, whatever its image (R168). -/
theorem storeLaw_withdrawn (sec : PlanSection) (check : PlanCheck) (hwf : s.ps.image.wf = true)
    (hd : s.pu.demand.natAbs ≤ 6000) : StoreLaw (withdrawn sec check s) :=
  ⟨⟨by simp [withdrawn], hd⟩, hwf, by simp [AdoptedLaw, withdrawn], by simp [AdoptedImageLaw, withdrawn]⟩

theorem storeLaw_reset (s : State) : StoreLaw (resetNode s) :=
  ⟨⟨by simp [resetNode, State.reset, PlanStore.reset], by simp [resetNode, State.reset, PaceUnit.reset]⟩, rfl,
    by simp [AdoptedLaw, resetNode, State.reset, PlanStore.reset],
    by simp [AdoptedImageLaw, resetNode, State.reset, PlanStore.reset]⟩

theorem storeLaw_kept (c : Instr) : Kept c StoreLaw :=
  (storeLaw_elementary c).kept
    (fun {s} p v e k _ hp hv hs => by
      obtain ⟨⟨hrange, -⟩, hrest⟩ := hs
      exact ⟨⟨hrange, demandOf_natAbs_le (hrange p hp) s hv e⟩, hrest⟩)
    (fun {s} m o _ hm hs => by
      obtain ⟨⟨-, hdemand⟩, himage, -⟩ := hs
      have hwf : m.wf = true := hm.elim (fun e => e ▸ himage) id
      have hrefused (sec : PlanSection) (check : PlanCheck) :=
        storeLaw_withdrawn (s := s.withPs { s.ps with image := m, op := o }) sec check hwf hdemand
      refine (storeLaw_elementary c).adoption (fun hf => storeLaw_handedOver hf hdemand)
        (fun sec check _ => hrefused sec check) (fun sec check _ => ?_)
      obtain ⟨⟨hrange, -⟩, hrest⟩ := hrefused sec check
      exact ⟨⟨by simpa using hrange, by simp⟩, by
        simpa [ImageLaw, AdoptedLaw, AdoptedImageLaw] using hrest⟩)
    (fun _ _ => storeLaw_reset _)

end Sys2Proof.Machine

open Sys2Proof Sys2Proof.Machine Sys2Proof.Safety

/-- Settles O46: each clamped field is clamped to itself, each checksum is the one recomputed, and the neighbours
kept are kept again. -/
theorem adoptionIsStable : Obligations.AdoptionIsStable := by
  intro m hf
  have h := adoptedImage_adopted m
  exact ⟨h.failingCheck_eq_none hf, h.planOf_eq, by rw [adoptedImage, h.adoptedBytes_eq, adoptedImage]⟩

/-- Settles O60: plan and image change by adoption, refusal, reset and a service write alone. -/
theorem stepKeepsPlanStore : Obligations.StepKeepsPlanStore := fun _ _ hplan himage hadopted hadoptedImage ht =>
  step_kept_of_next storeLaw_aside storeLaw_kept ht ⟨hplan, himage, hadopted, hadoptedImage⟩
end

section
/-! PROOFS. The queue, reset, the line, the settling of the inputs, and the plan commands with the configuration
memory (R12, R13, R19, R54, R163, R169 to R171, R175 to R178, R183). -/

namespace Sys2Proof.Machine

open Sys2Proof Sys2Proof.Safety

variable {s : State}

/-! ### Frames that act -/

theorem frameKind_report_iff (f : Frame) : frameKind f = .report ↔ ∃ r, f.body = .report r := by
  unfold frameKind; split <;> simp_all

theorem frameKind_motion_iff (f : Frame) : frameKind f = .motion ↔ ∃ m, f.body = .motion m := by
  unfold frameKind; split <;> simp_all

theorem frameKind_halt_iff (f : Frame) : frameKind f = .halt ↔ ∃ b, f.body = .halt b := by
  unfold frameKind; split <;> simp_all

theorem frameKind_clear_iff (f : Frame) : frameKind f = .clear ↔ f.body = .clear := by
  unfold frameKind; split <;> simp_all

theorem exec_transmissionComplete {q : Queued} (h : s.lau.transmitter = some q) :
    exec .transmissionComplete s = .next (transmissionDone q s) := by
  simp [exec, execTransmissionComplete, h]

/-! ### The service line over an idle parser -/

/-- A command over an idle parser, whole and not held by a break: it is echoed and acts (R173, R175). -/
theorem exec_service {k : ServiceCommand} (hp : s.sp.parser = []) (hb : s.sp.breakHeld = false) :
    exec (rowOf k) s = .next (actCommand k (echoByte ((commandBytes k).getLastD 0) [] s)) := by
  have h : exec (rowOf k) s = .next (wholeCommand k s) := by cases k <;> rfl
  rw [h, wholeCommand_idle k hp hb]

/-- The state after the echo of the last byte of a command, with a reply on the line. -/
theorem withReply_echoByte (hp : s.sp.parser = []) (b : Byte) (bytes : List Byte) :
    withReply bytes (echoByte b [] s) =
      { s with sp := { s.sp with echo := some b, reply := bytes, secondRead := false } } := by
  simp [withReply, echoByte, State.withSp, hp]

theorem exec_busy {k : ServiceCommand} (hop : s.ps.op ≠ .none) (hp : s.sp.parser = [])
    (hb : s.sp.breakHeld = false) (hk : k ≠ .summary) :
    exec (rowOf k) s = .next { s with sp := { s.sp with
      echo := some ((commandBytes k).getLastD 0), reply := [0xB5], secondRead := false } } := by
  rw [exec_service hp hb, actCommand_busy (by simpa [planBusy, echoByte] using hop) hk,
    withReply_echoByte hp]
  rfl

/-- ADOPT acts when no operation of the Plan Store is in flight (R177). -/
theorem actCommand_adopt {t : State} (h : t.ps.op = .none) : actCommand .adopt t = doAdopt t := by
  simp [actCommand, planBusy, h]

theorem actCommand_store {t : State} (h : t.ps.op = .none) : actCommand .store t = doStore t := by
  simp [actCommand, planBusy, h]

theorem actCommand_restart {t : State} (h : t.ps.op = .none) : actCommand .restart t = resetNode t := by
  simp [actCommand, planBusy, h]

theorem lauTakeHead_urgent {l : LineAccess} {q : Queued} {rest : List Queued} (h : l.urgent = q :: rest) :
    lauTakeHead l = { l with
      urgent := rest, transmitter := some q, deferral := none, lineBusy := true, run := [] } := by
  simp [lauTakeHead, h]

theorem lauTakeHead_normal {l : LineAccess} {q : Queued} {rest : List Queued} (hu : l.urgent = [])
    (hn : l.normal = q :: rest) :
    lauTakeHead l = { l with
      normal := rest, transmitter := some q, deferral := none, lineBusy := true, run := [] } := by
  simp [lauTakeHead, hu, hn]

/-- The held direction is that of the one line of UP and DOWN that is asserted (R56). -/
theorem heldOf_some (up down : Bool) : heldOf (some up) (some down) =
    if up && !down then some .up else if down && !up then some .down else none := by
  cases up <;> cases down <;> rfl

/-- The levels take every line that had none (R54). -/
def settledLines (l : LineLevels) (s : State) : State :=
  (s.withCi { s.ci with
    levels := settleLevels s.ci.levels l, inputsSettled := true
    held := heldOf (settleLevels s.ci.levels l).up (settleLevels s.ci.levels l).down }).withPs
      { s.ps with op := .load }

theorem exec_inputsSettled (l : LineLevels) (hs : s.ci.inputsSettled = false)
    (hph : s.phc.phase = .unplanned) (hop : s.ps.op = .none) :
    exec (.inputsSettled l) s = .next (settledLines l s) := by
  simp [exec, execInputsSettled, hs, hph, hop, settledLines]

end Sys2Proof.Machine

open Sys2Proof Sys2Proof.Machine Sys2Proof.Safety

/-- Settles O1: by the definition of a step. -/
theorem stepRunsFront : Obligations.StepRunsFront := by
  intro c rest s h
  simp [step, h]

/-- Settles O3: RESET is the reset state with the queue and the free values of the node, and RESTART over an idle
parser is RESET, or BUSY while the Plan Store is. -/
theorem resetAndRestart : Obligations.ResetAndRestart := by
  refine ⟨fun s => ⟨resetNode s, rfl, ?_⟩, fun s hp hb => ⟨fun hop => ?_, fun hop => ?_⟩⟩
  · have hentry : ∀ j, (resetNode s).pt.entry j =
        { state := .unlisted, report := none, silence := 0, stale := false, fresh := false } :=
      fun j => PeerTable.entry_reset j
    refine ⟨rfl, rfl, rfl, rfl, rfl, rfl, rfl, rfl, rfl, rfl, hentry, ?_⟩
    refine ⟨rfl, rfl, rfl, rfl, rfl, rfl, rfl, rfl, rfl, rfl, rfl, rfl, rfl, rfl, rfl, rfl, rfl, rfl, rfl, rfl, ?_⟩
    refine ⟨rfl, rfl, rfl, rfl, rfl, rfl, rfl, rfl, rfl, rfl, rfl, rfl, rfl, rfl, rfl, rfl, rfl, rfl, rfl, rfl, ?_⟩
    refine ⟨rfl, rfl, rfl, fun _ => rfl, rfl, rfl, rfl, rfl, rfl, rfl, rfl, rfl, rfl, rfl, rfl,
      show attention State.reset = true by decide⟩
  · have h := exec_service (k := .restart) hp hb
    rw [actCommand_restart (by simpa [echoByte] using hop)] at h
    exact h
  · exact exec_busy (k := .restart) hop hp hb (by simp)

/-- Settles O4: the reset state is what each law finds after any reset. -/
theorem lawsAtReset : Obligations.LawsAtReset := by
  obtain ⟨hlanes, hline⟩ := (unitLaw_iff State.reset).1 unitLaw_reset
  obtain ⟨hruns, hpace, htimers⟩ := countersLaw_reset State.reset
  obtain ⟨hplan, himage, hadopted, hadoptedImage⟩ := storeLaw_reset State.reset
  exact ⟨hlanes, hline, phaseLaw_reset State.reset, quiet_reset State.reset, hplan, peerLaw_reset State.reset,
    motionLaw_reset State.reset, hruns, htimers, hpace, flagsLaw_reset State.reset, himage, hadopted,
    hadoptedImage, driveWordLaw_reset State.reset⟩

/-- Settles O9: an idle line with a deferral running has nothing in the transmitter, which takes the head. -/
theorem lineIsTaken : Obligations.LineIsTaken := by
  intro s hbusy
  refine ⟨by simp [exec, execLineBecomesBusy, hbusy, State.withLau], fun hd ht hp => ?_⟩
  have htaken : exec .deferralRunsOut s = .next (s.withLau (lauTakeHead s.lau)) := by
    simp [exec, execDeferralRunsOut, hd, hbusy, ht, hp]
  refine ⟨fun q rest hu => ?_, fun q rest hu hn => ?_⟩
  · rw [htaken, lauTakeHead_urgent hu]; rfl
  · rw [htaken, lauTakeHead_normal hu hn]; rfl

/-- Settles O11: the frame leaves the transmitter, and its kind decides what it does. -/
theorem transmissionActs : Obligations.TransmissionActs := by
  intro s q hq
  have hheard : lineIdle q.frame.sender (s.withLau { s.lau with transmitter := none }) =
      { s with lau := heardFrom (ownNode s) q.frame.sender { s.lau with transmitter := none } } := rfl
  refine ⟨fun hk => ?_, fun m hm => ?_, fun hc => ?_⟩ <;> rw [exec_transmissionComplete hq, transmissionDone, hheard]
  · rcases hk with hk | hk
    · obtain ⟨r, e⟩ := (frameKind_report_iff _).1 hk
      simp [e]
    · obtain ⟨b, e⟩ := (frameKind_halt_iff _).1 hk
      simp [e]
  · simp [hm]
  · simp [hc]

/-- Settles O40: lines that had no level take the one given, and no change is told. -/
theorem inputsSettle : Obligations.InputsSettle := by
  intro s l
  refine ⟨fun hs hl hph hop => ⟨settledLines l s, exec_inputsSettled l hs hph hop, ?_⟩, fun hs => by
    simp [exec, execInputsSettled, hs]⟩
  refine ⟨rfl, ?_⟩
  simp only [settledLines, hl]
  exact ⟨rfl, rfl, rfl, rfl, rfl, rfl, rfl, rfl, rfl, rfl, rfl, rfl, rfl, rfl, heldOf_some _ _, rfl, rfl, rfl,
    rfl, rfl⟩

/-- Settles O49: what R169 does not permit is answered, and BUSY answers before anything acts. -/
theorem planCommandsGuarded : Obligations.PlanCommandsGuarded := by
  refine ⟨fun s hop hp hb => ?_, fun s a v hop hp hb c last hc => ?_⟩
  · have hfree (b : Byte) : (echoByte b [] s).ps.op = .none := hop
    have hadopt := exec_service (k := .adopt) hp hb
    have hstore := exec_service (k := .store) hp hb
    rw [actCommand_adopt (hfree _)] at hadopt
    rw [actCommand_store (hfree _)] at hstore
    have hperm (b : Byte) : planPermitted (echoByte b [] s) = planPermitted s := rfl
    refine ⟨fun hn => ⟨?_, ?_⟩, fun hy => ?_⟩
    · refine hadopt.trans ?_
      simp only [doAdopt, hperm, hn]
      rw [if_neg (by simp), withReply_echoByte hp]; rfl
    · refine hstore.trans ?_
      simp only [doStore, hperm, hn]
      rw [if_neg (by simp), withReply_echoByte hp]; rfl
    · refine hstore.trans ?_
      simp only [doStore, hperm, hy]
      simp [withReply, echoByte, State.withSp, State.withPs, hp, commandBytes, commandCode]
  · rcases hc with ⟨rfl, rfl⟩ | ⟨rfl, rfl⟩ | ⟨rfl, rfl⟩ | ⟨rfl, rfl⟩ | ⟨rfl, rfl⟩ | ⟨rfl, rfl⟩ | ⟨rfl, rfl⟩
    · exact exec_busy (k := .peek a) hop hp hb (by simp)
    · exact exec_busy (k := .poke a _) hop hp hb (by simp)
    · exact exec_busy (k := .peekOn) hop hp hb (by simp)
    · exact exec_busy (k := .pokeOn _) hop hp hb (by simp)
    · exact exec_busy (k := .adopt) hop hp hb (by simp)
    · exact exec_busy (k := .store) hop hp hb (by simp)
    · exact exec_busy (k := .restart) hop hp hb (by simp)

/-- Settles O50: the memory's answer fixes the status, and its reply waits for the parser. -/
theorem memoryOutcomes : Obligations.MemoryOutcomes := by
  intro s
  refine ⟨fun hop => ?_, fun hop back => ⟨storeStatusOf s.ps.image back, ?_, ?_, ?_, ?_⟩, fun st hst hp hb => ?_⟩
  · simp only [exec, execLoadNoMemory, hop]; rfl
  · rintro rfl; rfl
  · rintro bytes rfl e; simp [storeStatusOf, e]
  · rintro bytes rfl e; simp [storeStatusOf, e]
  · simp only [exec, execStoreComplete, hop]; rfl
  · simp only [exec, execStoreReplySent, hst, hp, hb]; rfl
end

section
/-! PROOFS. Adoption and refusal of a plan image, with the checks in their order (R161 to R168). -/

namespace Sys2Proof.Machine

open Sys2Proof Sys2Proof.Safety

variable {s : State}

/-! ### Changes of phase that nothing trips, and events that stay latched -/

/-- A change of phase at which no cause holds ends with the column's own part (R62). -/
theorem changePhase_passes {p : Phase} (hne : s.phc.phase ≠ p)
    (hswitch : switchCauses p (columnAt s.phc.phase p (enterPhase p s)).ci.levels = [])
    (hload : loadCauses (columnAt s.phc.phase p (enterPhase p s)) = []) :
    changePhase p s = columnAt s.phc.phase p (enterPhase p s) := by
  simp [changePhase, hne, hswitch, hload, tripAll]

/-- An event is latched (R180). -/
def Latched (e : Event) (s : State) : Prop := s.sp.latch.getLsbD (eventIndex e) = true

theorem eventIndex_lt (e : Event) : eventIndex e < 9 := by cases e <;> decide

theorem latched_latchEvent (e : Event) (s : State) : Latched e (latchEvent e s) := by
  simp [Latched, latchEvent, eventBit, eventIndex_lt]

theorem Latched.of_sp {e : Event} {t : State} (h : Latched e s) (hsp : t.sp = s.sp) : Latched e t := by
  rwa [Latched, hsp]

theorem Latched.latchEvent {e : Event} (h : Latched e s) (k : Event) : Latched e (latchEvent k s) := by
  unfold Latched at h
  simp [Latched, Machine.latchEvent, h]

theorem Latched.latchWhen {e : Event} (h : Latched e s) (b : Bool) (k : Event) :
    Latched e (latchWhen b k s) := by
  cases b
  · exact h
  · exact h.latchEvent k

theorem Latched.enterPhase {e : Event} (h : Latched e s) (p : Phase) : Latched e (enterPhase p s) := by
  unfold Machine.enterPhase
  refine Latched.latchEvent (Latched.latchWhen (Latched.latchWhen ?_ _ _) _ _) _
  exact h

/-! ### A plan put into force (R167) -/

theorem Latched.handAdoption {e : Event} (h : Latched e s) (p : Plan) : Latched e (handAdoption p s) := by
  unfold Machine.handAdoption
  refine Latched.latchWhen (Latched.latchWhen ?_ _ _) _ _
  exact h

theorem latched_handedOver (s : State) : Latched .plan (handedOver s) := by
  unfold handedOver
  have h (ps : PlanStore) : Latched .plan (handAdoption (planOf s.ps.image) (latchEvent .plan (s.withPs ps))) :=
    (latched_latchEvent .plan (s.withPs ps)).handAdoption _
  exact h _

/-- No switch trips at the entry into STARTING with the emergency-stop loop closed and no drive fault (R141). -/
theorem switchCauses_starting {l : FilteredLevels} (he : l.estop ≠ some true) (hd : l.driveFault ≠ some true) :
    switchCauses .starting l = [] := by
  simp [switchCauses, he, hd, isLoaded, isMoving]

theorem loadCauses_starting (h : s.phc.phase = .starting) : loadCauses s = [] := by
  cases hp : s.ps.plan <;> simp [loadCauses, hp, overloadHolds, loadLostHolds, h, isLoaded]

/-- Out of UNPLANNED or IDLE the node enters STARTING when no fault stands (R63). -/
theorem changePhase_starting (he : s.ci.levels.estop ≠ some true) (hd : s.ci.levels.driveFault ≠ some true)
    (hph : s.phc.phase = .unplanned ∨ s.phc.phase = .idle) : changePhase .starting s = enterPhase .starting s := by
  have hstill : columnAt s.phc.phase .starting (enterPhase .starting s) = enterPhase .starting s :=
    columnAt_still _ _ _ rfl (by rcases hph with h | h <;> rw [h] <;> rfl)
  have hne : s.phc.phase ≠ .starting := by rcases hph with h | h <;> rw [h] <;> decide
  rw [changePhase_passes hne, hstill] <;> rw [hstill]
  · exact switchCauses_starting (by simpa using he) (by simpa using hd)
  · exact loadCauses_starting (enterPhase_phase _ _)

/-- The Pace Unit keeps what it holds between two phases that are not pacing (R62). -/
theorem paceAt_still {old new : Phase} (ho : isPacing old = false) (hn : isPacing new = false) (pu : PaceUnit) :
    paceAt old new pu = pu := by
  simp [paceAt, ho, hn]

/-- The fingerprint of an image: the checksums of SET and PACE, and 1 for two zeros (R162). -/
theorem imageFingerprint_eq (m : Memory) :
    imageFingerprint m =
      if m.read 0x27 = 0 ∧ m.read 0x5D = 0 then 1 else m.read 0x27 ++ m.read 0x5D := by
  have hzero (a b : Byte) : wordOf a b = 0 ↔ a = 0 ∧ b = 0 := by
    rw [wordOf, ← BitVec.toNat_inj, ← BitVec.toNat_inj, ← BitVec.toNat_inj, BitVec.toNat_append]
    rw [← Nat.shiftLeft_add_eq_or_of_lt b.isLt, Nat.shiftLeft_eq]
    simp
  show (if wordOf (m.read 0x27) (m.read 0x5D) = 0 then _ else _) = _
  simp only [hzero]
  rfl

/-- What an adoption that puts the plan into force leaves: plan and image, the phase, and the hand-offs (R24,
R60, R63, R97, R98, R135, R157, R162, R167). -/
structure InForce (m : Memory) (s t : State) : Prop where
  ps : t.ps = { s.ps with
    image := adoptedImage m, plan := some (planOf m), adopted := true,
    fingerprint := some (imageFingerprint (adoptedImage m)), outcome := .adopted }
  phase : t.phc.phase = .starting
  startup : t.phc.startup = .cleared
  lastStop : t.phc.lastStop = s.phc.lastStop
  latched : Latched .plan t
  pt : t.pt = s.pt.adopt (planOf m)
  pu : t.pu = paceAdopt (planOf m) s.pu
  ci : t.ci = columnAdopt s.ci
  su : t.su = { s.su with session := none, press := .none }
  epoch : t.tm.epoch = s.tm.epoch
  flags : t.tm.flags = 0
  lau : t.lau = s.lau

theorem adoption_inForce (hf : failingCheck s.ps.image = none) (he : s.ci.levels.estop ≠ some true)
    (hd : s.ci.levels.driveFault ≠ some true) (hph : s.phc.phase = .unplanned ∨ s.phc.phase = .idle) :
    InForce s.ps.image s (adoption s) := by
  have hres : adoption s = enterPhase .starting (handedOver s) := by
    rw [adoption, hf, ← changePhase_starting (by simpa [columnAdopt] using he)
      (by simpa [columnAdopt] using hd) (by simpa using hph)]
    rfl
  have hrest : isPacing s.phc.phase = false := by rcases hph with h | h <;> rw [h] <;> rfl
  rw [hres]
  exact
    { ps := by simp
      phase := by simp
      startup := by simp
      lastStop := by simp
      latched := (latched_handedOver s).enterPhase _
      pt := by simp
      pu := by simpa [enterPhase_pu] using paceAt_still hrest rfl _
      ci := by simp
      su := by simp
      epoch := by simp [tripAdopt]
      flags := by simp [tripAdopt]
      lau := by simp }

/-! ### A plan refused (R168) -/

/-- What a refusal leaves: the outcome, no plan, and the node in UNPLANNED (R168); a node that was in IDLE has its
blocks emptied (R18, R25, R60). -/
structure Refused (sec : PlanSection) (k : PlanCheck) (s t : State) : Prop where
  ps : t.ps = { s.ps with outcome := .badPlan sec k, adopted := false, fingerprint := none, plan := none }
  phase : t.phc.phase = .unplanned
  latched : Latched .plan t
  epoch : t.tm.epoch = s.tm.epoch
  stays : s.phc.phase = .unplanned → t = withdrawn sec k s
  leaves : s.phc.phase ≠ .unplanned → t = enterUnplanned (withdrawn sec k s)

theorem latched_withdrawn (sec : PlanSection) (k : PlanCheck) (s : State) : Latched .plan (withdrawn sec k s) :=
  latched_latchEvent _ _

theorem Latched.enterUnplanned {e : Event} (h : Latched e s) : Latched e (enterUnplanned s) := by
  unfold Machine.enterUnplanned
  refine Latched.latchEvent (Latched.latchWhen ?_ _ _) _
  exact h

theorem adoption_refused {sec : PlanSection} {k : PlanCheck} (hf : failingCheck s.ps.image = some (sec, k)) :
    Refused sec k s (adoption s) := by
  have hres : adoption s = if s.phc.phase = .unplanned then withdrawn sec k s
      else enterUnplanned (withdrawn sec k s) := by
    rw [adoption, hf]; rfl
  by_cases hph : s.phc.phase = .unplanned
  · rw [if_pos hph] at hres
    rw [hres]
    exact { ps := rfl, phase := hph, latched := latched_withdrawn sec k s, epoch := rfl,
            stays := fun _ => rfl, leaves := fun h => absurd hph h }
  · rw [if_neg hph] at hres
    rw [hres]
    exact { ps := by simp [withdrawn], phase := by simp, latched := (latched_withdrawn sec k s).enterUnplanned,
            epoch := by simp [withdrawn, tripAdopt], stays := fun h => absurd h hph, leaves := fun _ => rfl }

theorem columnUnplanned_zeroWordSent (ci : ColumnInterface) : ZeroWordSent ci (columnUnplanned ci) := by
  have hzero : demandWord 0#16 = { value := 0, parity := false } := demandWord_zero
  cases ht : ci.transfer <;> simp [ZeroWordSent, ht, columnUnplanned, sendWord, setDrive, hzero]

/-! ### The two ways to an adoption -/

/-- A LOAD_COMPLETE that ends a LOAD runs the adoption of the bytes read (R163). -/
theorem exec_loadComplete {bytes : List Byte} (h : s.ps.op = .load) :
    exec (.loadComplete bytes) s =
      .next (adoption (s.withPs { s.ps with image := Memory.ofLoad bytes, op := .none })) := by
  simp [exec, execLoadComplete, h]

/-- A permitted ADOPT over an idle parser runs the adoption of the image (R169, R170). -/
theorem exec_adopt (hop : s.ps.op = .none) (hp : s.sp.parser = []) (hb : s.sp.breakHeld = false)
    (hperm : planPermitted s = true) :
    exec .adopt s = .next (withReply [if (failingCheck s.ps.image).isSome then 1 else 0]
      (adoption (echoByte 0x30 [] s))) := by
  have h := exec_service (k := .adopt) hp hb
  rw [actCommand_adopt (show (echoByte _ [] s).ps.op = .none from hop)] at h
  refine h.trans ?_
  have hperm' : planPermitted (echoByte 0x30 [] s) = true := hperm
  exact congrArg Host.Outcome.next (if_pos hperm')

/-! ### The checks (R161, R165, R186) -/

theorem sectionPasses_iff (m : Memory) (sec : PlanSection) :
    sectionPasses m sec = true ↔
      checksum (m.bytes (sectionSpan sec).1 (sectionSpan sec).2)
        = m.read ((sectionSpan sec).1 + (sectionSpan sec).2) := beq_iff_eq

/-- The first section that fails, by the five in image order. -/
theorem find_failing (m : Memory) :
    allSections.find? (fun sec => !sectionPasses m sec) =
      if ¬ sectionPasses m .identity = true then some .identity
      else if ¬ sectionPasses m .set = true then some .set
      else if ¬ sectionPasses m .pace = true then some .pace
      else if ¬ sectionPasses m .column = true then some .column
      else if ¬ sectionPasses m .neighbours = true then some .neighbours else none := by
  simp only [allSections, List.find?_cons, List.find?_nil]
  cases sectionPasses m .identity <;> cases sectionPasses m .set <;> cases sectionPasses m .pace <;>
    cases sectionPasses m .column <;> cases sectionPasses m .neighbours <;> rfl

/-- A number of most significant byte first has the bits of its bytes. -/
theorem testBit_foldl_bytes (bs : List Byte) (n i : Nat) (hi : i < 8 * bs.length) :
    (bs.foldl (fun n b => n * 256 + b.toNat) n).testBit i =
      (bs.getD (bs.length - 1 - i / 8) 0).getLsbD (i % 8) := by
  induction bs using List.reverseRecOn generalizing i with
  | nil => simp at hi
  | append_singleton bs b ih =>
    rw [List.foldl_append, List.foldl_cons, List.foldl_nil]
    generalize hx : bs.foldl (fun n b => n * 256 + b.toNat) n = x at ih ⊢
    rw [Nat.mul_comm, show (256 : Nat) = 2 ^ 8 from rfl, Nat.testBit_two_pow_mul_add _ b.isLt]
    simp only [List.length_append, List.length_singleton] at hi ⊢
    by_cases h8 : i < 8
    · rw [if_pos h8, Nat.div_eq_of_lt h8, Nat.mod_eq_of_lt h8]
      simp [BitVec.getLsbD]
    · have hlt : bs.length + 1 - 1 - i / 8 < bs.length := by omega
      rw [if_neg h8, ih (i - 8) (by omega)]
      have hidx : bs.length - 1 - (i - 8) / 8 = bs.length + 1 - 1 - i / 8 := by omega
      rw [hidx, show (i - 8) % 8 = i % 8 by omega, List.getD_eq_getElem?_getD, List.getD_eq_getElem?_getD,
        List.getElem?_append_left hlt]

/-- Node n is bit n of the membership: bit n mod 8 of byte 0x17 - n / 8 (R186). -/
theorem imageMembership_getLsbD (m : Memory) {n : Nat} (hn : n < 64) :
    (imageMembership m).getLsbD n = (m.read (0x17 - n / 8)).getLsbD (n % 8) := by
  have hget : ((m.bytes 0x10 8).getD (8 - 1 - n / 8) 0) = m.read (0x17 - n / 8) := by
    have hlt : 8 - 1 - n / 8 < 8 := by omega
    rw [List.getD_eq_getElem _ _ (by simpa using hlt)]
    simp only [Memory.bytes, List.getElem_map, List.getElem_range']
    congr 1; omega
  rw [imageMembership, BitVec.getLsbD_ofNat, testBit_foldl_bytes _ _ _ (by simpa using hn), Memory.bytes_length,
    hget]
  simp [hn]

theorem failingCheck_eq (m : Memory) : failingCheck m =
    if m.read 0x00 ≠ 0xA7 ∨ m.read 0x01 ≠ 0x3C then some (.identity, .tag)
    else if m.read 0x02 ≠ 0x02 then some (.identity, .version)
    else if ¬ sectionPasses m .identity = true then some (.identity, .checksum)
    else if ¬ sectionPasses m .set = true then some (.set, .checksum)
    else if ¬ sectionPasses m .pace = true then some (.pace, .checksum)
    else if ¬ sectionPasses m .column = true then some (.column, .checksum)
    else if ¬ sectionPasses m .neighbours = true then some (.neighbours, .checksum)
    else if 63 < (m.read 0x03).toNat then some (.identity, .nodeNumber)
    else if (imageMembership m).getLsbD (m.read 0x03).toNat = false then some (.set, .notMember)
    else none := by
  simp only [failingCheck, find_failing]
  cases sectionPasses m .identity with
  | false => simp only [Bool.false_eq_true, not_false_eq_true, if_true]
  | true =>
    cases sectionPasses m .set with
    | false => simp only [Bool.false_eq_true, not_false_eq_true, not_true_eq_false, if_true, if_false]
    | true =>
      cases sectionPasses m .pace with
      | false => simp only [Bool.false_eq_true, not_false_eq_true, not_true_eq_false, if_true, if_false]
      | true =>
        cases sectionPasses m .column with
        | false => simp only [Bool.false_eq_true, not_false_eq_true, not_true_eq_false, if_true, if_false]
        | true =>
          cases sectionPasses m .neighbours with
          | false => simp only [Bool.false_eq_true, not_false_eq_true, not_true_eq_false, if_true, if_false]
          | true => simp only [not_true_eq_false, if_false, Bool.not_eq_true']

end Sys2Proof.Machine

open Sys2Proof Sys2Proof.Machine Sys2Proof.Safety

/-- Settles O47: both ways end in the adoption, whose hand-offs are those of `InForce`. -/
theorem goodPlanIsAdopted : Obligations.GoodPlanIsAdopted := by
  intro s c m hf he hd hc
  have hfacts {s₀ t : State} (hm : s₀.ps.image = m) (hop : s₀.ps.op = .none) (h : InForce m s₀ t) :
      t.ps.image = adoptedImage m ∧ t.ps.plan = some (planOf m) ∧ t.ps.adopted = true
        ∧ t.ps.fingerprint = some (imageFingerprint (adoptedImage m)) ∧ t.ps.outcome = .adopted
        ∧ t.ps.fingerprint = some (if t.ps.image.read 0x27 = 0 ∧ t.ps.image.read 0x5D = 0 then 1
            else t.ps.image.read 0x27 ++ t.ps.image.read 0x5D)
        ∧ t.ps.op = .none ∧ t.sp.latch.getLsbD 6 = true
        ∧ (t.pt.entry (planOf m).node).state = .self
        ∧ (∀ j, isMember (planOf m) j = true → j ≠ (planOf m).node → t.pt.entry j =
            { state := .expected, report := none, silence := 0, stale := false, fresh := false }) := by
    rw [h.ps, h.pt]
    refine ⟨rfl, rfl, rfl, rfl, rfl, by rw [imageFingerprint_eq], hop, h.latched, ?_, fun j hj hne => ?_⟩
    · rw [PeerTable.entry_adopt]; simp [adoptEntry, PeerEntry.blank]
    · rw [PeerTable.entry_adopt]; simp [adoptEntry, hne, hj, PeerEntry.blank]
  rcases hc with ⟨bytes, rfl, rfl, hop, hph⟩ | ⟨rfl, rfl, hop, hp, hb, hph⟩
  · have h := adoption_inForce (s := s.withPs { s.ps with image := Memory.ofLoad bytes, op := .none })
      hf he hd (.inl hph)
    obtain ⟨h1, h2, h3, h4, h5, h6, h7, h8, h9, h10⟩ := hfacts rfl rfl h
    refine ⟨_, exec_loadComplete hop, h.phase, h.startup, h.lastStop, h1, h2, h3, h4, h5, h6, h7, h8, h9, h10, ?_⟩
    rw [h.pu, h.ci]
    exact ⟨rfl, rfl, rfl, rfl, rfl, rfl, rfl, rfl, rfl, h.su, h.epoch, h.flags, h.lau, fun e => by simp at e⟩
  · have hperm : planPermitted s = true := (planPermitted_iff s).2 hph
    have h := adoption_inForce (s := echoByte 0x30 [] s) hf he hd (hph.imp_right And.left)
    obtain ⟨h1, h2, h3, h4, h5, h6, h7, h8, h9, h10⟩ := hfacts (s₀ := echoByte 0x30 [] s) rfl hop h
    refine ⟨_, exec_adopt hop hp hb hperm, h.phase, h.startup, h.lastStop, h1, h2, h3, h4, h5, h6, h7, h8, h9,
      h10, ?_⟩
    have hpu : (withReply [if (failingCheck s.ps.image).isSome then 1 else 0]
        (adoption (echoByte 0x30 [] s))).pu = paceAdopt (planOf s.ps.image) s.pu := h.pu
    have hci : (withReply [if (failingCheck s.ps.image).isSome then 1 else 0]
        (adoption (echoByte 0x30 [] s))).ci = columnAdopt s.ci := h.ci
    rw [hpu, hci]
    exact ⟨rfl, rfl, rfl, rfl, rfl, rfl, rfl, rfl, rfl, h.su, h.epoch, h.flags, h.lau,
      fun _ => by simp [withReply, hf]⟩

/-- Settles O48: the checks in their order, and both ways to a refusal. -/
theorem badPlanIsRefused : Obligations.BadPlanIsRefused := by
  refine ⟨⟨rfl, fun bytes b => by simp [checksum, List.foldl_append]⟩, fun m => ?_, fun s c m sec k hf hc => ?_⟩
  · rw [failingCheck_eq]
    simp only [sectionPasses_iff, sectionSpan]
    by_cases hn : 63 < (m.read 0x03).toNat
    · simp only [hn, if_true]
    · simp only [hn, if_false, imageMembership_getLsbD m (n := (m.read 0x03).toNat) (by omega)]
  · have hfacts {s₀ t : State} (hm : s₀.ps.image = m) (hop : s₀.ps.op = .none) (h : Refused sec k s₀ t) :
        t.phc.phase = .unplanned ∧ t.ps.outcome = .badPlan sec k ∧ t.ps.plan = none ∧ t.ps.adopted = false
          ∧ t.ps.fingerprint = none ∧ t.ps.image = m ∧ t.ps.op = .none ∧ t.sp.latch.getLsbD 6 = true := by
      rw [h.ps]
      exact ⟨h.phase, rfl, rfl, rfl, rfl, hm, hop, h.latched⟩
    rcases hc with ⟨bytes, rfl, rfl, hop, hph⟩ | ⟨rfl, rfl, hop, hp, hb, hph⟩
    · have h := adoption_refused (s := s.withPs { s.ps with image := Memory.ofLoad bytes, op := .none }) hf
      obtain ⟨h1, h2, h3, h4, h5, h6, h7, h8⟩ := hfacts rfl rfl h
      refine ⟨_, exec_loadComplete hop, h1, h2, h3, h4, h5, h6, h7, h8, fun e => by simp at e, h.epoch,
        fun hu => ?_, fun hi => absurd (hph.symm.trans hi) (by decide)⟩
      rw [h.stays hu]
      exact ⟨rfl, rfl, rfl, rfl, rfl, rfl, rfl⟩
    · have h := adoption_refused (s := echoByte 0x30 [] s) hf
      have hperm : planPermitted s = true := (planPermitted_iff s).2 hph
      obtain ⟨h1, h2, h3, h4, h5, h6, h7, h8⟩ := hfacts (s₀ := echoByte 0x30 [] s) rfl hop h
      refine ⟨_, exec_adopt hop hp hb hperm, h1, h2, h3, h4, h5, h6, h7, h8, fun _ => by simp [withReply, hf],
        h.epoch, fun hu => ?_, fun hi => ?_⟩
      · rw [h.stays hu]
        exact ⟨rfl, rfl, rfl, rfl, rfl, rfl, rfl⟩
      · rw [h.leaves (fun hu => absurd (hi.symm.trans hu) (by decide))]
        have hci : (enterUnplanned (withdrawn sec k (echoByte 0x30 [] s))).ci = columnUnplanned s.ci :=
          enterUnplanned_ci _
        simp only [withReply, State.withSp_lau, State.withSp_pt, State.withSp_ci, State.withSp_pu,
          State.withSp_su, State.withSp_tm, enterUnplanned_lau, enterUnplanned_pt, enterUnplanned_pu,
          enterUnplanned_su, enterUnplanned_tm, hci, columnUnplanned_drive, columnUnplanned_zeroWordSent]
        exact ⟨trivial, trivial, trivial, rfl, trivial, trivial, trivial, trivial, rfl, trivial, trivial, trivial,
          trivial, rfl, rfl⟩
end

section
/-! PROOFS. The bytes of a frame: what a run of bytes is judged to be, field by field (R2 to R4, R184, R185). -/

namespace Sys2Proof.Machine

open Sys2Proof Sys2Proof.Safety

/-! ### Bytes and the bits that are used of them -/

theorem byte_eq_byteOf_iff (b : Byte) {n : Nat} (hn : n < 256) : b = byteOf n ↔ b.toNat = n := by
  rw [← BitVec.toNat_inj, byteOf, BitVec.toNat_ofNat, Nat.mod_eq_of_lt hn]

theorem toNat_and_low (b : Byte) {k : Nat} (hk : k ≤ 8) : (b &&& byteOf (2 ^ k - 1)).toNat = b.toNat % 2 ^ k := by
  have hlt : 2 ^ k - 1 < 256 := lt_of_lt_of_le (Nat.sub_lt (Nat.two_pow_pos k) one_pos)
    (Nat.pow_le_pow_right two_pos hk)
  rw [BitVec.toNat_and, byteOf, BitVec.toNat_ofNat, Nat.mod_eq_of_lt hlt, Nat.and_two_pow_sub_one_eq_mod]

/-- The used bits of REPORT offset 6: the cause code in bits 0 to 4 and the halt flag in bit 7. -/
theorem toNat_and_halt : ∀ b : Byte, (b &&& 0x9F).toNat = b.toNat % 32 + 128 * (b.toNat / 128) := by decide +kernel

theorem and_all (b : Byte) : b &&& 0xFF = b := BitVec.and_allOnes (x := b)

/-! ### Fields (R185) -/

theorem reportedPhase_iff (n : Nat) (ph : Phase) :
    reportedPhase n = some ph ↔ ph ≠ .unplanned ∧ n = phaseCode ph := by
  constructor
  · unfold reportedPhase
    split <;> rintro ⟨⟩ <;> exact ⟨by decide, rfl⟩
  · rintro ⟨hne, rfl⟩
    cases ph with
    | unplanned => exact absurd rfl hne
    | _ => rfl

theorem syncOfCode_iff (n : Nat) (st : SyncState) : syncOfCode n = some st ↔ n = syncCode st := by
  constructor
  · unfold syncOfCode
    split <;> rintro ⟨⟩ <;> rfl
  · rintro rfl; cases st <;> rfl

theorem causeOfCode_iff (n : Nat) (c : Cause) : causeOfCode n = some c ↔ n = causeCode c := by
  constructor
  · intro h
    have hfound := List.find?_some (p := fun c => causeCode c == n) h
    exact (beq_iff_eq.1 hfound).symm
  · rintro rfl; cases c <;> rfl

theorem stepOfByte_iff (b : Byte) (k : Step) : stepOfByte b = some k ↔ b.toNat % 16 = k.val + 1 := by
  unfold stepOfByte
  simp only []
  split
  · next h => rw [Option.some_inj, Fin.ext_iff]; simp only []; omega
  · next h => simp only [reduceCtorEq, false_iff]; have := k.isLt; omega

theorem syncCode_lt (st : SyncState) : syncCode st < 3 := by cases st <;> decide

theorem stepSync_iff (b : Byte) (k : Step) (st : SyncState) :
    (stepOfByte b = some k ∧ syncOfCode (b.toNat / 16 % 4) = some st) ↔ b &&& 0x3F = stepSyncByte k st := by
  have hk := k.isLt
  have hst := syncCode_lt st
  rw [stepOfByte_iff, syncOfCode_iff, stepSyncByte, byte_eq_byteOf_iff _ (by omega),
    show (0x3F : Byte) = byteOf (2 ^ 6 - 1) from rfl, toNat_and_low b (by norm_num)]
  omega

theorem haltOfByte_iff (b : Byte) (c : Option Cause) : haltOfByte b = some c ↔ b &&& 0x9F = haltByte c := by
  have hb := b.isLt
  unfold haltOfByte
  cases c with
  | none =>
    rw [haltByte, show (0 : Byte) = byteOf 0 from rfl, byte_eq_byteOf_iff _ (by norm_num), toNat_and_halt]
    by_cases h : b.toNat / 128 = 1
    · simp [h]
    · simp only [h, if_false]
      split <;> simp <;> omega
  | some c =>
    have hc := causeCode_bounds c
    rw [haltByte, byte_eq_byteOf_iff _ (by omega), toNat_and_halt]
    by_cases h : b.toNat / 128 = 1
    · simp only [h, if_true, Option.map_eq_some_iff, Option.some_inj, exists_eq_right, causeOfCode_iff]; omega
    · simp only [h, if_false]
      split <;> simp <;> omega

theorem nodeOfByte_iff (b : Byte) (n : NodeNum) : nodeOfByte b = some n ↔ b = byteOf n.val := by
  have hn := n.isLt
  rw [byte_eq_byteOf_iff _ (by omega)]
  unfold nodeOfByte
  split
  · rw [Option.some_inj, Fin.ext_iff]
  · next h => simp only [reduceCtorEq, false_iff]; omega

theorem byteOf_node_ne (n : NodeNum) : byteOf n.val ≠ 255#8 := by
  have hn := n.isLt
  rw [ne_comm, ne_eq, byte_eq_byteOf_iff _ (by omega)]
  intro h
  have h : 255 = n.val := h
  omega

theorem tokenOfBytes_absent (q : Byte) : tokenOfBytes 255#8 q = if q = 255#8 then some none else none := if_pos rfl

theorem tokenOfBytes_node {o : Byte} (h : o ≠ 255#8) (q : Byte) :
    tokenOfBytes o q = (nodeOfByte o).map (fun n => some ⟨n, q⟩) := if_neg h

theorem tokenOfBytes_iff (o q : Byte) (k : Option Token) : tokenOfBytes o q = some k ↔ [o, q] = tokenBytes k := by
  by_cases ho : o = 255#8
  · rw [ho, tokenOfBytes_absent]
    cases k with
    | none => by_cases hq : q = 255#8 <;> simp [hq, tokenBytes]
    | some k => by_cases hq : q = 255#8 <;> simp [hq, tokenBytes, (byteOf_node_ne k.originator).symm]
  · rw [tokenOfBytes_node ho]
    cases k with
    | none => simp [tokenBytes, ho]
    | some k =>
      simp only [Option.map_eq_some_iff, nodeOfByte_iff, tokenBytes, Option.some_inj, List.cons.injEq, and_true]
      constructor
      · rintro ⟨n, rfl, rfl⟩; exact ⟨rfl, rfl⟩
      · rintro ⟨rfl, rfl⟩; exact ⟨_, rfl, rfl⟩

theorem presetOfByte_iff (b : Byte) (p : Preset) : presetOfByte b = some p ↔ b = byteOf p.val := by
  have hp := p.isLt
  rw [byte_eq_byteOf_iff _ (by omega)]
  unfold presetOfByte
  split
  · rw [Option.some_inj, Fin.ext_iff]
  · next h => simp only [reduceCtorEq, false_iff]; omega

theorem peerOfByte_iff (b : Byte) (n : Option NodeNum) : peerOfByte b = some n ↔ b = peerByte n := by
  unfold peerOfByte
  cases n with
  | none => by_cases hb : b = 255#8 <;> simp [hb, peerByte]
  | some n =>
    by_cases hb : b = 255#8
    · simp [hb, peerByte, (byteOf_node_ne n).symm]
    · simp [hb, peerByte, nodeOfByte_iff]

theorem wordOf_iff (hi lo : Byte) (w : Word) : wordOf hi lo = w ↔ [hi, lo] = wordBytes w := by
  constructor
  · rintro rfl
    have h1 : hiByte (wordOf hi lo) = hi := by
      rw [hiByte, wordOf, ← BitVec.toNat_inj, BitVec.extractLsb'_toNat, BitVec.toNat_append,
        ← Nat.shiftLeft_add_eq_or_of_lt lo.isLt, Nat.shiftLeft_eq, Nat.shiftRight_eq_div_pow]
      have h1 := hi.isLt; have h2 := lo.isLt; omega
    have h2 : loByte (wordOf hi lo) = lo := by
      rw [loByte, wordOf, ← BitVec.toNat_inj, BitVec.extractLsb'_toNat, BitVec.toNat_append,
        ← Nat.shiftLeft_add_eq_or_of_lt lo.isLt, Nat.shiftLeft_eq]
      have h1 := hi.isLt; have h2 := lo.isLt; omega
    rw [wordBytes, h1, h2]
  · intro h
    obtain ⟨rfl, rfl, -⟩ := by simpa [wordBytes] using h
    exact wordOf_wordBytes w

theorem getLsbD_low (b : Byte) :
    b.getLsbD 0 = decide (b.toNat % 2 = 1) ∧ b.getLsbD 1 = decide (b.toNat / 2 % 2 = 1)
      ∧ b.getLsbD 2 = decide (b.toNat / 4 % 2 = 1) := by
  refine ⟨?_, ?_, ?_⟩ <;> simp [BitVec.getLsbD, Nat.testBit_eq_decide_div_mod_eq]

theorem reportFlags_iff (b : Byte) (rv cl ek : Bool) :
    (b.getLsbD 0 = rv ∧ b.getLsbD 1 = cl ∧ b.getLsbD 2 = ek) ↔ b &&& 0x07 = reportFlags rv cl ek := by
  obtain ⟨h0, h1, h2⟩ := getLsbD_low b
  rw [reportFlags, byte_eq_byteOf_iff _ (by cases rv <;> cases cl <;> cases ek <;> decide),
    show (0x07 : Byte) = byteOf (2 ^ 3 - 1) from rfl, toNat_and_low b (by norm_num), h0, h1, h2]
  cases rv <;> cases cl <;> cases ek <;> simp [bitAt] <;> omega

/-! ### Bodies -/

theorem reportOfBytes_list (ph ss ha t0 t1 l1 l0 h1 h0 w1 w0 f1 f0 fl : Byte) (r : ReportBody) :
    reportOfBytes [ph, ss, ha, t0, t1, l1, l0, h1, h0, w1, w0, f1, f0, fl] = some r ↔
      reportedPhase ph.toNat = some r.phase
        ∧ (stepOfByte ss = some r.step ∧ syncOfCode (ss.toNat / 16 % 4) = some r.sync)
        ∧ haltOfByte ha = some r.halt ∧ tokenOfBytes t0 t1 = some r.token
        ∧ wordOf l1 l0 = r.lift ∧ wordOf h1 h0 = r.height ∧ wordOf w1 w0 = r.load ∧ wordOf f1 f0 = r.fingerprint
        ∧ (fl.getLsbD 0 = r.refValid ∧ fl.getLsbD 1 = r.clamped ∧ fl.getLsbD 2 = r.epochKnown) := by
  cases r
  simp only [reportOfBytes, Option.bind_eq_bind, Option.bind_eq_some_iff, Option.some_inj, ReportBody.mk.injEq]
  constructor
  · rintro ⟨_, h1, _, h2, _, h3, _, h4, _, h5, rfl, rfl, rfl, rfl, rfl, rfl, rfl, rfl, rfl, rfl, rfl, rfl⟩
    exact ⟨h1, ⟨h2, h3⟩, h4, h5, rfl, rfl, rfl, rfl, rfl, rfl, rfl⟩
  · rintro ⟨h1, ⟨h2, h3⟩, h4, h5, rfl, rfl, rfl, rfl, rfl, rfl, rfl⟩
    exact ⟨_, h1, _, h2, _, h3, _, h4, _, h5, rfl, rfl, rfl, rfl, rfl, rfl, rfl, rfl, rfl, rfl, rfl, rfl⟩

theorem reportOfBytes_length {bs : List Byte} {r : ReportBody} (h : reportOfBytes bs = some r) : bs.length = 14 := by
  unfold reportOfBytes at h
  split at h
  · rfl
  · cases h

/-- Fourteen bytes are a REPORT body exactly when their used bits are those of the body (R185). -/
theorem reportOfBytes_iff (bs : List Byte) (r : ReportBody) :
    reportOfBytes bs = some r ↔ r.wf = true ∧ bs.length = 14
      ∧ List.zipWith (· &&& ·) bs (usedBits .report) = bodyBytes (.report r) := by
  by_cases hlen : bs.length = 14
  · match bs, hlen with
    | [ph, ss, ha, t0, t1, l1, l0, h1, h0, w1, w0, f1, f0, fl], _ =>
      have hwf : r.wf = true ↔ r.phase ≠ .unplanned := by simp [ReportBody.wf]
      have hph : phaseCode r.phase < 256 := by cases r.phase <;> decide
      rw [reportOfBytes_list, reportedPhase_iff, stepSync_iff, haltOfByte_iff, tokenOfBytes_iff, wordOf_iff,
        wordOf_iff, wordOf_iff, wordOf_iff, reportFlags_iff, hwf, ← byte_eq_byteOf_iff _ hph]
      obtain ⟨k0, k1, hk⟩ : ∃ k0 k1, tokenBytes r.token = [k0, k1] := by
        cases r.token <;> exact ⟨_, _, rfl⟩
      simp only [usedBits, bodyBytes, hk, wordBytes, List.replicate, List.zipWith, and_all, List.cons_append,
        List.nil_append, List.cons.injEq, and_true, List.length_cons, List.length_nil, Nat.reduceAdd, true_and]
      tauto
  · simp only [hlen, false_and, and_false, iff_false]
    exact fun h => hlen (reportOfBytes_length h)

theorem motionOfBytes_iff (bs : List Byte) (m : Motion) : motionOfBytes bs = some m ↔ bs = motionBytes m := by
  constructor
  · intro h
    unfold motionOfBytes at h
    split at h
    · next v q p =>
      have hv {n : Nat} (hn : n < 256) (h : v.toNat = n) : v = byteOf n := (byte_eq_byteOf_iff v hn).2 h
      split at h <;> simp only [Option.map_eq_some_iff, presetOfByte_iff, nodeOfByte_iff, reduceCtorEq] at h
      all_goals
        obtain ⟨x, rfl, rfl⟩ := h
        next hn => rw [hv (by norm_num) hn]; rfl
    · cases h
  · rintro rfl
    cases m with
    | start d q p => cases d <;> simp [motionBytes, motionOfBytes, presetOfByte_iff]
    | keep d q p => cases d <;> simp [motionBytes, motionOfBytes, presetOfByte_iff]
    | finish k =>
      have hn := (nodeOfByte_iff (byteOf k.originator.val) k.originator).2 rfl
      simp [motionBytes, motionOfBytes, hn]

theorem haltOfBytes_iff (bs : List Byte) (b : HaltBody) : haltOfBytes bs = some b ↔ bs = bodyBytes (.halt b) := by
  have hcode (c : Byte) (k : Cause) : causeOfCode c.toNat = some k ↔ c = byteOf (causeCode k) := by
    have := causeCode_bounds k
    rw [causeOfCode_iff, byte_eq_byteOf_iff _ (by omega)]
  constructor
  · intro h
    unfold haltOfBytes at h
    split at h
    · next c l1 l0 p =>
      simp only [Option.bind_eq_bind, Option.bind_eq_some_iff, Option.some_inj, hcode, peerOfByte_iff] at h
      obtain ⟨k, rfl, n, rfl, rfl⟩ := h
      have hw := (wordOf_iff l1 l0 _).1 rfl
      simp only [bodyBytes, ← hw]; rfl
    · cases h
  · rintro rfl
    obtain ⟨k, w, n⟩ := b
    have hk := (hcode (byteOf (causeCode k)) k).2 rfl
    have hn := (peerOfByte_iff (peerByte n) n).2 rfl
    simp [bodyBytes, wordBytes, haltOfBytes, hk, hn, wordOf_wordBytes]

/-- The number of body bytes of a kind (11_formats.md). -/
def bodyLength : FrameKind → Nat
  | .report => 14
  | .motion => 3
  | .halt => 4
  | .clear => 0

theorem bodyBytes_length (f : Frame) : (bodyBytes f.body).length = bodyLength (frameKind f) := by
  obtain ⟨n, e, b⟩ := f
  cases b with
  | report r => cases hk : r.token <;> simp [bodyBytes, hk, tokenBytes, wordBytes, frameKind, bodyLength]
  | motion m =>
    cases m with
    | start d q p => cases d <;> rfl
    | keep d q p => cases d <;> rfl
    | finish k => rfl
  | halt h => rfl
  | clear => rfl

/-- The bytes agree with the body in every bit that the kind uses (R184). -/
def Spells (k : FrameKind) (bs : List Byte) (b : Body) : Prop :=
  bs.length = bodyLength k ∧ List.zipWith (· &&& ·) bs (usedBits k) = bodyBytes b

theorem zipWith_and_all (bs : List Byte) : List.zipWith (· &&& ·) bs (List.replicate bs.length 0xFF) = bs := by
  induction bs with
  | nil => rfl
  | cons b bs ih => rw [List.length_cons, List.replicate_succ, List.zipWith_cons_cons, and_all, ih]

/-- A kind that uses every bit is spelt by its own bytes alone. -/
theorem spells_exact {k : FrameKind} (hk : usedBits k = List.replicate (bodyLength k) 0xFF) {bs : List Byte}
    {b : Body} (hb : (bodyBytes b).length = bodyLength k) : Spells k bs b ↔ bs = bodyBytes b := by
  rw [Spells, hk]
  constructor
  · rintro ⟨hl, hz⟩
    rwa [← hl, zipWith_and_all] at hz
  · rintro rfl
    exact ⟨hb, by rw [← hb, zipWith_and_all]⟩

theorem bodyOfBytes_iff (kind : Byte) (bs : List Byte) (f : Frame) :
    bodyOfBytes kind bs = some f.body ↔
      kind = kindByte (frameKind f) ∧ f.wf = true ∧ Spells (frameKind f) bs f.body := by
  have hlen := bodyBytes_length f
  obtain ⟨n, e, b⟩ := f
  unfold bodyOfBytes
  cases b with
  | report r =>
    have hiff : reportOfBytes bs = some r ↔ r.wf = true ∧ Spells .report bs (.report r) := reportOfBytes_iff bs r
    split_ifs with h1 h2 h3 h4 <;> simp_all [frameKind, Frame.wf, kindByte]
  | motion m =>
    have hiff : motionOfBytes bs = some m ↔ Spells .motion bs (.motion m) :=
      (motionOfBytes_iff bs m).trans (spells_exact rfl hlen).symm
    split_ifs with h1 h2 h3 h4 <;> simp_all [frameKind, Frame.wf, kindByte]
  | halt h =>
    have hiff : haltOfBytes bs = some h ↔ Spells .halt bs (.halt h) :=
      (haltOfBytes_iff bs h).trans (spells_exact rfl hlen).symm
    split_ifs with h1 h2 h3 h4 <;> simp_all [frameKind, Frame.wf, kindByte]
  | clear =>
    have hiff : bs = [] ↔ Spells .clear bs .clear := (spells_exact (b := .clear) rfl rfl).symm
    split_ifs with h1 h2 h3 h4 <;> simp_all [frameKind, Frame.wf, kindByte]

/-! ### Frames and runs (R2 to R4) -/

/-- The bytes of a frame with another spelling of its body. -/
def spelling (f : Frame) (body : List Byte) : List Byte :=
  let covered := [kindByte (frameKind f), byteOf f.sender.val, f.epochByte] ++ body
  0x9A :: covered ++ wordBytes (crc16 covered)

theorem frameBytes_eq_spelling (f : Frame) : frameBytes f = spelling f (bodyBytes f.body) := rfl

theorem frameOfBytes_iff (bs : List Byte) (f : Frame) :
    frameOfBytes bs = some f ↔
      f.wf = true ∧ ∃ body, bs = spelling f body ∧ Spells (frameKind f) body f.body := by
  constructor
  · intro h
    unfold frameOfBytes at h
    split at h
    · next sync kind sender epoch rest =>
      simp only [Option.bind_eq_bind, Option.bind_eq_some_iff, Option.ite_none_right_eq_some, Option.some_inj,
        nodeOfByte_iff] at h
      obtain ⟨n, rfl, b, hb, ⟨rfl, hlen, hcrc⟩, rfl⟩ := h
      obtain ⟨hkind, hwf, hspell⟩ := (bodyOfBytes_iff kind _ ⟨n, epoch, b⟩).1 hb
      refine ⟨hwf, _, ?_, hspell⟩
      have hrest := List.take_append_drop (rest.length - 2) rest
      rw [hcrc, hkind] at hrest
      simp only [spelling, ← hkind] at hrest ⊢
      simpa [syncByte] using hrest.symm
    · cases h
  · rintro ⟨hwf, body, rfl, hspell⟩
    have hb := (bodyOfBytes_iff (kindByte (frameKind f)) body f).2 ⟨rfl, hwf, hspell⟩
    have hn := (nodeOfByte_iff (byteOf f.sender.val) f.sender).2 rfl
    have hlen (w : Word) : (body ++ wordBytes w).length - 2 = body.length := by simp [wordBytes]
    simp only [spelling, List.cons_append, List.nil_append, frameOfBytes, hlen, List.take_left, List.drop_left, hn,
      hb, Option.bind_eq_bind, Option.bind_some]
    exact if_pos ⟨rfl, by simp [wordBytes], trivial⟩

theorem soundBytes_iff (run : List BusByte) (bs : List Byte) : soundBytes run = some bs ↔ run = bs.map some := by
  induction run generalizing bs with
  | nil => simp [soundBytes, eq_comm (a := ([] : List Byte))]
  | cons b run ih =>
    cases b with
    | none => cases bs <;> simp [soundBytes]
    | some b => cases bs <;> simp [soundBytes, ih, and_comm]

theorem spelling_length (f : Frame) (body : List Byte) : (spelling f body).length = body.length + 6 := by
  simp [spelling, wordBytes]

/-- A run is a frame exactly when its bytes are a spelling of it (R4, R185). -/
theorem judgeRun_iff (run : List BusByte) (f : Frame) :
    judgeRun run = some f ↔
      f.wf = true ∧ ∃ body, run = (spelling f body).map some ∧ Spells (frameKind f) body f.body := by
  have hbind : (soundBytes run).bind frameOfBytes = some f ↔
      f.wf = true ∧ ∃ body, run = (spelling f body).map some ∧ Spells (frameKind f) body f.body := by
    simp only [Option.bind_eq_some_iff, soundBytes_iff, frameOfBytes_iff]
    constructor
    · rintro ⟨bs, rfl, hwf, body, rfl, hspell⟩; exact ⟨hwf, body, rfl, hspell⟩
    · rintro ⟨hwf, body, rfl, hspell⟩; exact ⟨_, rfl, hwf, body, rfl, hspell⟩
  rw [judgeRun]
  split
  · next hlong =>
    simp only [reduceCtorEq, false_iff]
    rintro ⟨-, body, rfl, hlen, -⟩
    rw [List.length_map, spelling_length, hlen] at hlong
    cases hk : frameKind f <;> rw [hk] at hlong <;> simp [bodyLength] at hlong
  · exact hbind

theorem stepSyncByte_used : ∀ (k : Step) (st : SyncState), stepSyncByte k st &&& 0x3F = stepSyncByte k st
  | k, .acquire => by revert k; decide
  | k, .track => by revert k; decide
  | k, .lock => by revert k; decide

theorem haltByte_used (c : Option Cause) : haltByte c &&& 0x9F = haltByte c := by
  cases c with
  | none => rfl
  | some c => cases c <;> rfl

theorem reportFlags_used (rv cl ek : Bool) : reportFlags rv cl ek &&& 0x07 = reportFlags rv cl ek := by
  cases rv <;> cases cl <;> cases ek <;> rfl

/-- A body as sent spells itself: no byte has a bit set that its kind does not use. -/
theorem spells_bodyBytes (f : Frame) : Spells (frameKind f) (bodyBytes f.body) f.body := by
  have hlen := bodyBytes_length f
  obtain ⟨n, e, b⟩ := f
  cases b with
  | report r =>
    obtain ⟨k0, k1, hk⟩ : ∃ k0 k1, tokenBytes r.token = [k0, k1] := by cases r.token <;> exact ⟨_, _, rfl⟩
    refine ⟨hlen, ?_⟩
    simp only [frameKind, usedBits, bodyBytes, hk, wordBytes, List.replicate, List.zipWith, and_all,
      List.cons_append, List.nil_append, stepSyncByte_used, haltByte_used, reportFlags_used]
  | motion m => exact (spells_exact (k := .motion) rfl hlen).2 rfl
  | halt h => exact (spells_exact (k := .halt) rfl hlen).2 rfl
  | clear => exact (spells_exact (k := .clear) rfl hlen).2 rfl

theorem judgeRun_frameBytes {f : Frame} (h : f.wf = true) : judgeRun ((frameBytes f).map some) = some f :=
  (judgeRun_iff _ f).2 ⟨h, _, rfl, spells_bodyBytes f⟩

end Sys2Proof.Machine

open Sys2Proof Sys2Proof.Machine Sys2Proof.Safety

/-- Settles O5: a frame's own bytes are a spelling of it. -/
theorem frameRoundTrip : Obligations.FrameRoundTrip := fun _ => judgeRun_frameBytes

/-- Settles O6: the runs of a frame are its spellings. -/
theorem goodRunIsSound : Obligations.GoodRunIsSound := by
  intro run f
  rw [judgeRun_iff]
  have hlength : bodyLength (frameKind f) = (match frameKind f with
      | .report => 14
      | .motion => 3
      | .halt => 4
      | .clear => 0) := by cases frameKind f <;> rfl
  simp only [Spells, hlength]
  rfl
end

section
/-! PROOFS. What a halt does to the lanes and the flags, the HALT frame, runs and collisions (R1, R4, R13 to R17,
R85, R94, R137 to R140, R149). -/

namespace Sys2Proof.Machine

open Sys2Proof Sys2Proof.Safety

variable {s : State}

/-! ### The lanes at a halt (R94, R148) -/

theorem applyHalt_su (r : HaltRecord) (s : State) :
    (applyHalt r s).su = { s.su with session := none, press := pressAtHalt s.ci.held s.su.press } := by
  simp [applyHalt]

theorem applyHalt_ci (r : HaltRecord) (s : State) : (applyHalt r s).ci = (safeDrive s).ci := by simp [applyHalt]

theorem applyHalt_pressSpent (r : HaltRecord) (s : State) : PressSpent s (applyHalt r s) :=
  pressSpent_of_pressAtHalt (by rw [applyHalt_su])

theorem composeEndOf_urgent (r : Press) (s : State) : (composeEndOf r s).lau.urgent = s.lau.urgent := by
  unfold composeEndOf; split <;> simp

theorem composeEndOf_waiting (k : Token) (d : Direction) (q : Preset) (s : State) :
    composeEndOf (.waiting k d q) s = composeMotion (.finish k) s := rfl

theorem composeEndOf_settled {r : Press} (h : ∀ k d q, r ≠ .waiting k d q) (s : State) : composeEndOf r s = s := by
  cases r with
  | waiting k d q => exact absurd rfl (h k d q)
  | none | held | spent => rfl

/-- The state on which a halt composes the END of a WAITING press (R94). -/
theorem applyHalt_lau (r : HaltRecord) (s : State) : ∃ t : State, t.lau = s.lau ∧ t.ps = s.ps
    ∧ t.tm.epoch = s.tm.epoch ∧ (applyHalt r s).lau = (composeEndOf s.su.press t).lau := by
  let u := haltOrder (s.withTm { s.tm with record := some r })
  refine ⟨u.withSu { u.su with session := none, press := pressAtHalt u.ci.held u.su.press }, by simp [u],
    by simp [u], by simp [u], ?_⟩
  simp [applyHalt, endSessionInHalt, u]

@[simp] theorem applyHalt_urgent (r : HaltRecord) (s : State) : (applyHalt r s).lau.urgent = s.lau.urgent := by
  obtain ⟨t, hlau, -, -, e⟩ := applyHalt_lau r s
  rw [e, composeEndOf_urgent, hlau]

theorem applyHalt_lau_settled (r : HaltRecord) (h : ∀ k d q, s.su.press ≠ .waiting k d q) :
    (applyHalt r s).lau = s.lau := by
  obtain ⟨t, hlau, -, -, e⟩ := applyHalt_lau r s
  rw [e, composeEndOf_settled h, hlau]

theorem motionOf_of_epoch {s t : State} (h : t.tm.epoch = s.tm.epoch) (p : Plan) (m : Motion) :
    motionOf p t m = motionOf p s m := by
  simp [motionOf, h]

theorem withdrawsStart_composeEndOf {p : Plan} {s t : State} (hp : t.ps.plan = some p) (hlau : t.lau = s.lau)
    (hepoch : t.tm.epoch = s.tm.epoch) : WithdrawsStart p s (composeEndOf s.su.press t) := by
  refine ⟨fun k d q hw => ?_, fun hw => ?_⟩
  · rw [hw, composeEndOf_waiting, composeMotion_normal hp, motionOf_of_epoch hepoch, hlau]
    exact takesPlace_joinLane (replaces_motionOf p s (by simp)) _
  · rw [composeEndOf_settled hw, hlau]

theorem applyHalt_withdrawsStart (r : HaltRecord) {p : Plan} (hp : s.ps.plan = some p) :
    WithdrawsStart p s (applyHalt r s) := by
  obtain ⟨t, hlau, hps, hepoch, e⟩ := applyHalt_lau r s
  unfold WithdrawsStart
  rw [e]
  exact withdrawsStart_composeEndOf (by rw [hps, hp]) hlau hepoch

theorem withdrawsStart_of_same {p : Plan} {s s' t : State} (h : WithdrawsStart p s' t) (hsu : s'.su = s.su)
    (hnormal : s'.lau.normal = s.lau.normal) (hepoch : s'.tm.epoch = s.tm.epoch) : WithdrawsStart p s t := by
  unfold WithdrawsStart at *
  rw [hsu, hnormal] at h
  simpa only [motionOf_of_epoch hepoch] using h

theorem applyHalt_receiver (r : HaltRecord) (s : State) : ReceiverKept s.lau (applyHalt r s).lau :=
  (applyHalt_joined r .refl).receiver

/-! ### The flags at a halt (R138 to R141) -/

theorem hasFlag_withFlag_self (f : BitVec 16) (c : Cause) : hasFlag (withFlag f c) c = true := by
  simp [hasFlag_withFlag]

theorem hasFlag_foldl_setFlag {c : Cause} (cs : List (Cause × Option TravelSide)) {s : State}
    (h : hasFlag s.tm.flags c = true) : hasFlag (cs.foldl (fun t c => setFlag c.1 c.2 t) s).tm.flags c = true := by
  induction cs generalizing s with
  | nil => exact h
  | cons x cs ih => exact ih (by simp [hasFlag_withFlag, h])

theorem haltOrder_hasFlag {c : Cause} (h : hasFlag s.tm.flags c = true) :
    hasFlag (haltOrder s).tm.flags c = true := by
  unfold haltOrder
  extract_lets u
  split
  · exact h
  · exact hasFlag_foldl_setFlag _ (by simpa [u] using h)

theorem levels_of_measured {ci ci' : ColumnInterface} (h : measured ci' = measured ci) :
    ci'.levels = ci.levels := by
  rw [eq_of_measured h]

/-- The re-read of the switches at the entry into HALTED finds nothing with the emergency-stop loop closed and no
drive fault (R141). -/
theorem haltOrder_flags (he : s.ci.levels.estop ≠ some true) (hd : s.ci.levels.driveFault ≠ some true) :
    (haltOrder s).tm.flags = s.tm.flags := by
  have hlevels : (safeDrive s).ci.levels = s.ci.levels := levels_of_measured (safeDrive_measured s)
  have hnone : switchCauses .halted (safeDrive s).ci.levels = [] := by
    simp [switchCauses, hlevels, he, hd, isLoaded, isMoving]
  unfold haltOrder
  extract_lets u
  split
  · rfl
  · simp [u, hnone]

theorem applyHalt_hasFlag {c : Cause} (r : HaltRecord) (h : hasFlag s.tm.flags c = true) :
    hasFlag (applyHalt r s).tm.flags c = true := by
  have := haltOrder_hasFlag (s := s.withTm { s.tm with record := some r }) h
  simpa [applyHalt] using this

theorem applyHalt_flags (r : HaltRecord) (he : s.ci.levels.estop ≠ some true)
    (hd : s.ci.levels.driveFault ≠ some true) : (applyHalt r s).tm.flags = s.tm.flags := by
  have := haltOrder_flags (s := s.withTm { s.tm with record := some r }) he hd
  simpa [applyHalt] using this

/-! ### Local trips of a node that is not halted (R139) -/

theorem trip_running {c : Cause} {d : Option TravelSide} {n : Option NodeNum} (hp : s.ps.plan.isSome = true)
    (h : s.tm.record = none) : trip c d n s = localHalt c n (setFlag c d s) := by
  rcases trip_cases c d n s with ⟨h0, -⟩ | ⟨-, hh, -⟩ | ⟨-, -, e⟩
  · simp [h0] at hp
  · simp [isHalted, h] at hh
  · exact e

theorem trip_hasFlag (c : Cause) (d : Option TravelSide) (n : Option NodeNum) (hp : s.ps.plan.isSome = true) :
    hasFlag (trip c d n s).tm.flags c = true := by
  rcases trip_cases c d n s with ⟨h0, -⟩ | ⟨-, -, e⟩ | ⟨-, -, e⟩
  · simp [h0] at hp
  · rw [e, setFlag_flags, hasFlag_withFlag_self]
  · rw [e]; exact applyHalt_hasFlag _ (by simp [hasFlag_withFlag_self])

theorem trip_keeps_hasFlag {c : Cause} (k : Cause) (d : Option TravelSide) (n : Option NodeNum)
    (h : hasFlag s.tm.flags c = true) : hasFlag (trip k d n s).tm.flags c = true := by
  rcases trip_cases k d n s with ⟨-, e⟩ | ⟨-, -, e⟩ | ⟨-, -, e⟩
  · rwa [e]
  · rw [e, setFlag_flags, hasFlag_withFlag, h, Bool.true_or]
  · rw [e]; exact applyHalt_hasFlag _ (by simp [hasFlag_withFlag, h])

theorem haltFrame_of_plan {p : Plan} (hp : s.ps.plan = some p) (c : Cause) :
    haltFrame c none s = haltOf p s c := by
  simp [haltFrame, haltOf, ownNode_of_plan hp, ownEpochByte]

/-- The HALT of a local trip joins the urgent lane (R139, R148). -/
theorem localHalt_urgent {p : Plan} (hp : s.ps.plan = some p) (c : Cause) (n : Option NodeNum) :
    (localHalt c n s).lau.urgent = joinLane s.lau.urgent (haltFrame c n s) := by
  obtain ⟨d, e⟩ := compose_urgent_lau (f := haltFrame c n s) hp rfl
  rw [localHalt, applyHalt_urgent, e]

theorem localHalt_withdrawsStart {p : Plan} (hp : s.ps.plan = some p) (c : Cause) (n : Option NodeNum) :
    WithdrawsStart p s (localHalt c n s) := by
  obtain ⟨d, e⟩ := compose_urgent_lau (f := haltFrame c n s) hp rfl
  have h := applyHalt_withdrawsStart (localRecord c n s) (s := compose (haltFrame c n s) s) (p := p)
    (by rw [compose_ps, hp])
  exact withdrawsStart_of_same h (by simp) (by rw [e]) (by simp)

/-- A local trip of a node that is not halted, with an urgent lane that holds no HALT: its own HALT joins at the
tail (R139, R148). -/
theorem trip_urgent {p : Plan} (hp : s.ps.plan = some p) (h : s.tm.record = none) (c : Cause) (d : Option TravelSide)
    (hnone : ∀ x ∈ s.lau.urgent, frameKind x.frame ≠ .halt) :
    (trip c d none s).lau.urgent = s.lau.urgent ++ [{ frame := haltOf p s c, attempts := 0 }] := by
  have hframe : haltFrame c none (setFlag c d s) = haltOf p s c := haltFrame_of_plan hp c
  rw [trip_running (by rw [hp]; rfl) h, localHalt_urgent (s := setFlag c d s) hp, hframe]
  exact joinLane_absent hnone

theorem trip_withdrawsStart {p : Plan} (hp : s.ps.plan = some p) (h : s.tm.record = none) (c : Cause)
    (d : Option TravelSide) (n : Option NodeNum) : WithdrawsStart p s (trip c d n s) := by
  rw [trip_running (by rw [hp]; rfl) h]
  exact withdrawsStart_of_same (localHalt_withdrawsStart (s := setFlag c d s) hp c n) rfl rfl rfl

theorem trip_receiver (c : Cause) (d : Option TravelSide) (n : Option NodeNum) (s : State) :
    ReceiverKept s.lau (trip c d n s).lau :=
  (trip_joined c d n .refl).receiver

/-! ### A collided frame (R15, R16) -/

theorem keepsQueued_iff {q f : Frame} (h : frameKind f = frameKind q) :
    keepsQueued q f = true ↔ frameKind q = .halt ∨ KeepOfStart q f := by
  obtain ⟨n, e, b⟩ := q
  obtain ⟨n', e', b'⟩ := f
  cases b <;> cases b' <;> simp only [frameKind, reduceCtorEq] at h
  case report.report => simp [keepsQueued, frameKind, KeepOfStart]
  case halt.halt => simp [keepsQueued, frameKind]
  case clear.clear => simp [keepsQueued, frameKind, KeepOfStart]
  case motion.motion m m' =>
    cases m <;> cases m' <;> simp [keepsQueued, frameKind, KeepOfStart]
    case start.keep => exact fun _ => eq_comm

theorem comesBack_returnToLane (lane : List Queued) (q : Queued) : ComesBack lane q (returnToLane lane q) := by
  refine ⟨fun h => ?_, fun a newer b hlane hkind hothers => ?_⟩
  · have hnone : lane.find? (fun n => frameKind n.frame == frameKind q.frame) = none := by simpa using h
    simp [returnToLane, hnone]
  · have ha : ∀ x ∈ a, frameKind x.frame ≠ frameKind q.frame := fun x hx => hothers x (List.mem_append_left b hx)
    have hb : ∀ x ∈ b, frameKind x.frame ≠ frameKind q.frame := fun x hx => hothers x (List.mem_append_right a hx)
    have hfind : lane.find? (fun n => frameKind n.frame == frameKind q.frame) = some newer := by
      rw [hlane, List.find?_append, List.find?_eq_none.2 (by simpa using ha)]
      simp [hkind]
    have hrest : lane.filter (fun n => frameKind n.frame != frameKind q.frame) = a ++ b := by
      rw [hlane, List.filter_append, List.filter_cons]
      simp only [hkind, bne_self_eq_false, Bool.false_eq_true, if_false]
      rw [List.filter_eq_self.2 (by simpa using ha), List.filter_eq_self.2 (by simpa using hb)]
    have hreturn : returnToLane lane q =
        (if keepsQueued q.frame newer.frame then q else { q with frame := newer.frame }) :: (a ++ b) := by
      rw [returnToLane, hfind, hrest]
    have hkeeps := keepsQueued_iff hkind
    refine ⟨fun h => ?_, fun hhalt hkeep => ?_⟩
    · rw [hreturn, if_pos (hkeeps.2 h)]
    · rw [hreturn, if_neg (fun h => (hkeeps.1 h).elim hhalt hkeep)]

/-- A byte that reads back differently is a collision of the frame in the transmitter (R15). -/
theorem exec_collision {q : Queued} {i : Nat} {b : Byte} {back : BusByte} (ht : s.lau.transmitter = some q)
    (hb : (frameBytes q.frame)[i]? = some b) (hback : back ≠ some b) :
    exec (.collision i back) s = .next (collided q (s.withLau { s.lau with
      run := ((frameBytes q.frame).take i).map some ++ [back] })) := by
  simp [exec, execCollision, collision, ht, hb, hback]

theorem collided_below {q : Queued} (h : q.attempts + 1 < 16) (s : State) :
    collided q s = s.withLau (lauReturn s.lau { q with attempts := q.attempts + 1 }) := if_pos h

theorem collided_sixteenth {q : Queued} (h : q.attempts = 15) (s : State) :
    collided q s = trip .mediumFault none none (s.withLau { s.lau with transmitter := none }) :=
  if_neg (by omega)

/-! ### A frame heard under a plan (R5, R149) -/

/-- A good frame of another node is handed on behind the idle event (R5). -/
theorem exec_heard {p : Plan} {f : Frame} (h : Hears s p f.sender) (hwf : f.wf = true) :
    exec (Safety.commandOf f) s = .next (handOn f (lineIdle f.sender s)) := by
  obtain ⟨hp, hsynced, htransmitter, hn⟩ := h
  rw [exec_commandOf_good hwf hsynced htransmitter]
  simp [goodFrame, hp, hn]

/-- A HALT of a member halts a node that is not halted, by its own record (R149). -/
theorem exec_halt {p : Plan} {n : NodeNum} (h : Hears s p n) (hm : isMember p n = true) (e : Byte) (b : HaltBody)
    (hrecord : s.tm.record = none) :
    exec (.halt n e b) s = .next (remoteHalt b.cause n b.lift b.peer (lineIdle n s)) := by
  have ⟨hp, _⟩ := h
  refine (exec_heard (f := { sender := n, epochByte := e, body := .halt b }) h rfl).trans ?_
  simp [handOn, takeHalt, hp, hm, isHalted, hrecord]

theorem exec_halt_halted {p : Plan} {n : NodeNum} (h : Hears s p n) (e : Byte) (b : HaltBody)
    (hrecord : s.tm.record.isSome = true) : exec (.halt n e b) s = .next (lineIdle n s) := by
  refine (exec_heard (f := { sender := n, epochByte := e, body := .halt b }) h rfl).trans ?_
  rw [handOn]
  exact congrArg Host.Outcome.next (takeHalt_halted (by simpa [isHalted] using hrecord) n b)

theorem lineIdle_of_plan {p : Plan} (hp : s.ps.plan = some p) (n : NodeNum) :
    lineIdle n s = { s with lau := heardFrom p.node n s.lau } := by
  rw [lineIdle_eq, ownNode_of_plan hp]

end Sys2Proof.Machine

open Sys2Proof Sys2Proof.Machine Sys2Proof.Safety

/-- Settles O8: the judged run, the discarded run, and the first idle event. -/
theorem idleEventJudgesRun : Obligations.IdleEventJudgesRun := by
  refine ⟨fun s f hwf hs ht hrun => ?_, fun s rest ht => ⟨fun hs hne hjudge => ?_, fun hs => ⟨?_, fun f => ?_⟩⟩⟩
  · have hne : (frameBytes f).map some ≠ [] := by simp [frameBytes]
    rw [exec_commandOf_good hwf hs ht]
    simp [exec, execIdleEvent, idleEvent, hrun, hs, hne, endOfRun, ht, judgeRun_frameBytes hwf, judgedRun]
  · simp only [exec, execIdleEvent, idleEvent, hs, hne, hjudge, endOfRun, ht, judgedRun]
    rfl
  · simp only [exec, execIdleEvent, idleEvent, hs]
    rfl
  · rw [exec_commandOf, frameEnds_unsynced f hs, lineIdle_eq]

/-- Settles O10: below the sixteenth the frame returns to its lane, at the sixteenth MEDIUM_FAULT trips. -/
theorem collisionsAreCounted : Obligations.CollisionsAreCounted := by
  refine ⟨fun s q i b back ht hb hback hlt => ⟨fun hk => ?_, fun hk => ?_⟩,
    fun s p q i b back hp ht hb hback h15 => ⟨fun hn => ?_, fun hr => ?_⟩⟩
  · refine ⟨_, ?_, comesBack_returnToLane _ _⟩
    rw [exec_collision ht hb hback, collided_below hlt, lauReturn, if_pos ((isUrgent_iff _).2 hk)]
    rfl
  · have hnot : ¬ isUrgent q.frame = true := by
      rw [isUrgent_iff]; rcases hk with h | h <;> simp [h]
    refine ⟨_, ?_, comesBack_returnToLane _ _⟩
    rw [exec_collision ht hb hback, collided_below hlt, lauReturn, if_neg hnot]
    rfl
  · let u : State := s.withLau { s.lau with
      run := ((frameBytes q.frame).take i).map some ++ [back], transmitter := none }
    have hu : u.ps.plan = some p := hp
    refine ⟨trip .mediumFault none none u, ?_, ?_, ?_, ?_, fun hnone => ?_, ?_⟩
    · rw [exec_collision ht hb hback, collided_sixteenth h15]
      rfl
    · have h := trip_haltedWith .mediumFault none none (s := u) (by rw [hu]; rfl) hn
      rw [localRecord, ownNode_of_plan hu] at h
      exact haltedWith_of_same h rfl rfl rfl rfl rfl
    · exact (trip_receiver _ _ _ u).transmitter
    · exact trip_hasFlag _ _ _ (by rw [hu]; rfl)
    · exact trip_urgent hu hn.1 _ _ hnone
    · exact withdrawsStart_of_same (trip_withdrawsStart hu hn.1 _ _ _) rfl rfl rfl
  · rw [exec_collision ht hb hback, collided_sixteenth h15]
    refine congrArg Host.Outcome.next (trip_halted _ _ _ ?_ hr)
    rw [State.withLau_ps, State.withLau_ps, hp]; rfl

/-- Settles O22: the halt that a member's HALT brings, and the frame ignored. -/
theorem haltFrameHalts : Obligations.HaltFrameHalts := by
  intro s p n e b h hm
  have ⟨hp, _, htransmitter, _⟩ := h
  refine ⟨fun ⟨hrecord, hphase⟩ he hd => ⟨_, exec_halt h hm e b hrecord, ?_⟩, fun hr => ?_⟩
  · have hkept : ReceiverKept (lineIdle n s).lau (remoteHalt b.cause n b.lift b.peer (lineIdle n s)).lau :=
      applyHalt_receiver _ _
    refine ⟨haltedWith_of_same (applyHalt_haltedWith _ (s := lineIdle n s) hphase) rfl rfl rfl rfl rfl,
      applyHalt_flags _ he hd, by simp, ?_, applyHalt_urgent _ _, hkept.last, ?_, hkept.lineBusy, fun hw => ?_⟩
    · exact withdrawsStart_of_same (applyHalt_withdrawsStart _ (s := lineIdle n s) hp) rfl rfl rfl
    · exact hkept.transmitter.trans htransmitter
    · refine (applyHalt_lau_settled _ (s := lineIdle n s) hw).trans ?_
      rw [lineIdle_of_plan hp]
  · rw [exec_halt_halted h e b hr, lineIdle_of_plan hp]
end

section
/-! PROOFS. Clears, and the REPORTs of the other nodes (R26 to R30, R35, R67, R78, R150, R152 to R156). -/

namespace Sys2Proof.Machine

open Sys2Proof Sys2Proof.Safety

variable {s : State} {p : Plan}

/-! ### The flags that a clear keeps (R152, R153) -/

theorem conditionHolds_iff (s : State) (c : Cause) : conditionHolds s c = true ↔ ConditionStands s c := by
  cases c with
  | travelLimit =>
    cases h : s.tm.travelSide with
    | none => simp [conditionHolds, ConditionStands, h]
    | some d => cases d <;> simp [conditionHolds, ConditionStands, h]
  | driveFault => simp [conditionHolds, ConditionStands, driveFaulty]
  | encoderFault => simp [conditionHolds, ConditionStands, encoderFaulty]
  | estop | overload | loadSilent | nutEngaged => simp [conditionHolds, ConditionStands]
  | noReference | loadLost | differential | peerSilent | stall | drift | mediumFault | contactTimeout
  | duplicateNode => simp [conditionHolds, ConditionStands]

theorem hasFlag_keptFlags (s : State) (c : Cause) :
    hasFlag (keptFlags s) c = true ↔ hasFlag s.tm.flags c = true ∧ isPersisting c = true ∧ ConditionStands s c := by
  rw [keptFlags, hasFlag_flagsWhere, Bool.and_eq_true, Bool.and_eq_true, conditionHolds_iff, and_assoc]

theorem flagsWhere_none {keep : Cause → Bool} (h : ∀ c, keep c = false) : flagsWhere keep = 0 := by
  rw [show keep = fun _ => false from funext h]; rfl

theorem keptFlags_eq_zero (h : ∀ c, hasFlag s.tm.flags c = true → ¬ ConditionStands s c) : keptFlags s = 0 :=
  flagsWhere_none fun c => by
    have hc := hasFlag_keptFlags s c
    rw [keptFlags, hasFlag_flagsWhere] at hc
    exact Bool.eq_false_iff.2 fun hk => h c (hc.1 hk).1 (hc.1 hk).2.2

theorem lowestFlag_zero : lowestFlag 0 = none := by decide

theorem lowestFlag_estop {f : BitVec 16} (h : hasFlag f .estop = true) : lowestFlag f = some .estop := by
  simp [lowestFlag, allCauses, h]

/-! ### The steps of a clear (R152, R154) -/

/-- The state under the new epoch, with the record empty and every halt news out of date (R35, R152). -/
def epochTaken (e : Byte) (s : State) : State :=
  (s.withTm { s.tm with epoch := some e, record := none }).withPt s.pt.markStale

/-- A resolution of NO_REFERENCE gives h_c alone (R154). -/
theorem resolveReference_eq (p : Plan) (b : Bool) (s : State) :
    ∃ h, resolveReference p b s = s.withCi { s.ci with contactHeight := h } := by
  unfold resolveReference
  split
  · split
    · exact ⟨_, rfl⟩
    · exact ⟨s.ci.contactHeight, rfl⟩
  · exact ⟨s.ci.contactHeight, rfl⟩

/-- The flags kept are told from the node as the clear finds it: the resolution changes no condition (R153). -/
theorem keptFlags_resolved (p : Plan) (e : Byte) (b : Bool) (s : State) :
    keptFlags (resolveReference p b (epochTaken e s)) = keptFlags s := by
  obtain ⟨h, heq⟩ := resolveReference_eq p b (epochTaken e s)
  rw [heq]
  unfold keptFlags
  congr 1

theorem clearSteps_eq (p : Plan) (e : Byte) (s : State) :
    clearSteps p e s = (resolveReference p (isHalted s) (epochTaken e s)).withTm { s.tm with
      epoch := some e, record := none, flags := keptFlags s,
      travelSide := if hasFlag (keptFlags s) .travelLimit then s.tm.travelSide else none } := by
  have hkept := keptFlags_resolved p e (isHalted s) s
  have htm : (resolveReference p (isHalted s) (epochTaken e s)).tm = (epochTaken e s).tm :=
    resolveReference_tm _ _ _
  have hsteps : clearSteps p e s =
      let u := resolveReference p (isHalted s) (epochTaken e s)
      u.withTm { u.tm with
        flags := keptFlags u
        travelSide := if hasFlag (keptFlags u) .travelLimit then u.tm.travelSide else none } := rfl
  rw [hsteps]
  simp only [hkept, htm]
  rfl

/-- A column that has its reference, or is neither told to adopt one, keeps h_c (R154). -/
theorem resolveReference_known {b : Bool} (h : s.ci.contactHeight.isSome = true) : resolveReference p b s = s := by
  obtain ⟨hc, h⟩ := Option.isSome_iff_exists.1 h
  simp [resolveReference, h]

theorem resolveReference_unflagged (h : hasFlag s.tm.flags .noReference = false) :
    resolveReference p false s = s := by
  unfold resolveReference
  split
  · simp [h]
  · rfl

/-! ### The outcomes of a clear (R67, R78, R152) -/

theorem applyPending_none (h : s.su.session = none) : applyPending s = s := by simp [applyPending, h]

/-- The entry into a phase out of HALTED that nothing trips (R62, R78). -/
theorem changePhase_cleared (hph : s.phc.phase = .halted) (hq : NothingTrips s) :
    changePhase (phaseOnClear s) s = enterPhase (phaseOnClear s) s := by
  have hmoving : isMoving (phaseOnClear s) = false := by
    rcases phaseOnClear_cases s with h | h | h <;> rw [h] <;> rfl
  rw [changePhase_quiet hq hmoving (by rw [hph]; exact (phaseOnClear_ne s).2.symm),
    columnAt_still _ _ _ hmoving (by rw [hph]; rfl)]

theorem takeClear_running (hp : s.ps.plan = some p) (e : Byte) (hflags : keptFlags s = 0)
    (hrecord : s.tm.record = none) : takeClear e s = clearSteps p e s := by
  have hlow : lowestFlag (clearSteps p e s).tm.flags = none := by
    rw [clearSteps_eq, State.withTm_tm, hflags]; exact lowestFlag_zero
  simp [takeClear, hp, hlow, isHalted, hrecord]

/-- A clear that finds no flag with its condition standing ends the halt (R78, R152). -/
theorem takeClear_cleared (hp : s.ps.plan = some p) (e : Byte) (hflags : keptFlags s = 0)
    (hrecord : s.tm.record.isSome = true) (hph : s.phc.phase = .halted) (hsession : s.su.session = none)
    (hq : NothingTrips s) :
    takeClear e s =
      enterPhase (phaseOnClear (clearSteps p e s)) (latchEvent .haltCleared (clearSteps p e s)) := by
  have hlow : lowestFlag (clearSteps p e s).tm.flags = none := by
    rw [clearSteps_eq, State.withTm_tm, hflags]; exact lowestFlag_zero
  have hcleared : takeClear e s = reportCleared (clearSteps p e s) := by
    simp [takeClear, hp, hlow, isHalted, hrecord]
  have hph' : (latchEvent .haltCleared (clearSteps p e s)).phc.phase = .halted := by simpa using hph
  have hchange := changePhase_cleared hph' (nothingTrips_of_measured (by simp) hq)
  rw [hcleared, reportCleared, show phaseOnClear (clearSteps p e s) =
    phaseOnClear (latchEvent .haltCleared (clearSteps p e s)) from rfl, hchange]
  exact applyPending_none (by simpa using hsession)

theorem phaseOnClear_clearSteps (e : Byte) (s : State) :
    phaseOnClear (clearSteps p e s) = if s.phc.startup.done = false then .starting
      else if 3 ≤ s.ci.contactRun then .hold else .idle := by
  have hrun : (clearSteps p e s).ci.contactRun = s.ci.contactRun := by
    rw [eq_of_measured (clearSteps_measured p e s)]
  cases hd : s.phc.startup.done <;> simp [phaseOnClear, columnLoaded, hrun, hd]

/-- The CLEAR of a member is taken behind the idle event (R152). -/
theorem exec_clear {n : NodeNum} (h : Hears s p n) (hm : isMember p n = true) (e : Byte) :
    exec (.clear n e) s = .next (takeClear e (lineIdle n s)) := by
  have ⟨hp, _⟩ := h
  refine (exec_heard (f := { sender := n, epochByte := e, body := .clear }) h rfl).trans ?_
  simp [handOn, takeClearFrame, hp, hm]

/-! ### The lift that a reference adoption takes (R154) -/

theorem loadedReport_iff (e : PeerEntry) (x : Int) :
    LoadedLift e x ↔ ∃ r, loadedReport e = some r ∧ r.lift.toInt = x := by
  simp only [LoadedLift, loadedReport, liveReport, Option.filter_eq_some_iff, Option.ite_none_right_eq_some]
  constructor
  · rintro ⟨h1, r, h2, h3, h4⟩; exact ⟨r, ⟨⟨h1, h2⟩, h3⟩, h4⟩
  · rintro ⟨r, ⟨⟨h1, h2⟩, h3⟩, h4⟩; exact ⟨h1, r, h2, h3, h4⟩

/-- The least of the lifts that a list of entries reports. -/
theorem leastLift_iff {ι : Type} (xs : List ι) (entry : ι → PeerEntry) {ls : List Word}
    (hls : ∀ x, x ∈ ls.map (·.toInt) ↔ ∃ i ∈ xs, LoadedLift (entry i) x) :
    (∀ l, leastLift ls = some l → (∃ i ∈ xs, LoadedLift (entry i) l) ∧ ∀ i ∈ xs, ∀ x, LoadedLift (entry i) x → l ≤ x)
      ∧ (leastLift ls = none → ∀ i ∈ xs, ∀ x, ¬ LoadedLift (entry i) x) := by
  constructor
  · intro l hl
    obtain ⟨hmem, hmin⟩ := List.min?_eq_some_iff.1 hl
    exact ⟨(hls l).1 hmem, fun i hi x hx => hmin x ((hls x).2 ⟨i, hi, hx⟩)⟩
  · intro hnone i hi x hx
    have hempty : ls.map (·.toInt) = [] := List.min?_eq_none_iff.1 hnone
    have := (hls x).2 ⟨i, hi, hx⟩
    rw [hempty] at this
    cases this

theorem mem_loadedNeighbours (p : Plan) (t : PeerTable) (x : Int) :
    x ∈ ((loadedNeighbours p t).map (·.2)).map (·.toInt) ↔ ∃ n ∈ p.neighbours, LoadedLift (t.entry n.node) x := by
  simp only [loadedNeighbours, loadedReport_iff, List.mem_map, List.mem_filterMap, Option.map_eq_some_iff]
  constructor
  · rintro ⟨_, ⟨_, ⟨n, hn, r, hr, rfl⟩, rfl⟩, rfl⟩; exact ⟨n, hn, r, hr, rfl⟩
  · rintro ⟨n, hn, r, hr, rfl⟩; exact ⟨_, ⟨_, ⟨n, hn, r, hr, rfl⟩, rfl⟩, rfl⟩

theorem mem_loadedPeers (t : PeerTable) (x : Int) :
    x ∈ ((loadedPeers t).map (·.2)).map (·.toInt) ↔ ∃ j ∈ allNodes, LoadedLift (t.entry j) x := by
  simp only [loadedPeers, loadedReport_iff, List.mem_map, List.mem_filterMap, Option.map_eq_some_iff]
  constructor
  · rintro ⟨_, ⟨_, ⟨j, hj, r, hr, rfl⟩, rfl⟩, rfl⟩; exact ⟨j, hj, r, hr, rfl⟩
  · rintro ⟨j, hj, r, hr, rfl⟩; exact ⟨_, ⟨_, ⟨j, hj, r, hr, rfl⟩, rfl⟩, rfl⟩

theorem mem_allNodes (j : NodeNum) : j ∈ allNodes := List.mem_finRange j

theorem referenceLift_spec (p : Plan) (t : PeerTable) : ReferenceLift p t (referenceLift p t) := by
  obtain ⟨hn, hn0⟩ := leastLift_iff p.neighbours (fun n => t.entry n.node) (mem_loadedNeighbours p t)
  obtain ⟨hp, hp0⟩ := leastLift_iff allNodes t.entry (mem_loadedPeers t)
  unfold referenceLift
  split
  · next l hl =>
    obtain ⟨hsome, hleast⟩ := hn l hl
    obtain ⟨n, hmem, hload⟩ := hsome
    exact ⟨fun _ => ⟨⟨n, hmem, hload⟩, hleast⟩, fun h => absurd hload (h n hmem l)⟩
  · next hnone =>
    have hnone := hn0 hnone
    refine ⟨fun ⟨n, hmem, x, hx⟩ => absurd hx (hnone n hmem x), fun _ => ?_⟩
    split
    · next l hl =>
      obtain ⟨⟨j, -, hload⟩, hleast⟩ := hp l hl
      exact ⟨fun _ => ⟨⟨j, hload⟩, fun i x hx => hleast i (mem_allNodes i) x hx⟩,
        fun h => absurd hload (h j l)⟩
    · next hl =>
      have hl := hp0 hl
      exact ⟨fun ⟨j, x, hx⟩ => absurd hx (hl j (mem_allNodes j) x), fun _ => rfl⟩

theorem referenceLift_markStale (p : Plan) (t : PeerTable) : referenceLift p t.markStale = referenceLift p t := by
  simp only [referenceLift, loadedNeighbours, loadedPeers, PeerTable.entry_markStale, loadedReport, liveReport]

/-- A number clamped to the range of a height keeps its value (R43, R154). -/
theorem clampHeight_toNat (x : Int) : ((clampHeight x).toNat : Int) = max 0 (min 65535 x) := by
  unfold clampHeight clampInt
  rw [BitVec.toNat_ofInt]
  omega

/-- A loaded column with h_c invalid adopts its reference at the clear of a halt after start-up (R154). -/
theorem resolveReference_adopts {h : Word} (hc : s.ci.contactHeight = none) (hh : s.ci.height = some h)
    (hloaded : 3 ≤ s.ci.contactRun) (hdone : s.phc.startup.done = true) :
    resolveReference p true s =
      s.withCi { s.ci with contactHeight := some (clampHeight (h.toNat - referenceLift p s.pt)) } := by
  simp [resolveReference, hc, hh, columnLoaded, hloaded, hdone]

/-! ### REPORTs (R26 to R30, R150, R156) -/

/-- The table with a REPORT recorded, and STRANGER latched at the first one from an unlisted number (R26 to R28). -/
def reportRecorded (n : NodeNum) (e : Byte) (r : ReportBody) (s : State) : State :=
  latchWhen ((s.pt.entry n).state == .unlisted) .stranger
    (s.withPt (s.pt.setEntry n (recordReport s.ps.fingerprint e r (s.pt.entry n))))

theorem takeReport_eq (n : NodeNum) (e : Byte) (r : ReportBody) (s : State) :
    takeReport n e r s =
      if (recordReport s.ps.fingerprint e r (s.pt.entry n)).state = .live then
        judgeReport n (reportedOf e r) (reportRecorded n e r s) else reportRecorded n e r s := rfl

/-- A report leaves its entry LIVE exactly when R26 says so. -/
theorem recordReport_live_iff (n : NodeNum) (e : Byte) (r : ReportBody) (s : State) :
    (recordReport s.ps.fingerprint e r (s.pt.entry n)).state = .live ↔ LeavesLive s n r.fingerprint := by
  unfold recordReport LeavesLive
  cases h : (s.pt.entry n).state <;> by_cases hf : s.ps.fingerprint = some r.fingerprint <;>
    simp [stateAfterReport, hf]

/-- The REPORT of another node is recorded behind the idle event (R26). -/
theorem exec_report {n : NodeNum} (h : Hears s p n) (e : Byte) {r : ReportBody} (hwf : r.wf = true) :
    exec (.report n e r) s = .next (takeReport n e r (lineIdle n s)) :=
  exec_heard (f := { sender := n, epochByte := e, body := .report r }) h hwf

theorem reportedOf_epoch (e : Byte) (r : ReportBody) :
    (reportedOf e r).epoch = if r.epochKnown then some e else none := rfl

theorem judgeReport_of_not {n : NodeNum} {r : Reported} (ht : reportTeaches s r = false)
    (hh : reportHalts s r = false) (hc : reportClears s r = false) : judgeReport n r s = s := by
  simp [judgeReport, ht, hh, hc]

/-- The epoch that a report teaches a node that is not halted (R29). -/
theorem judgeReport_teaches {n : NodeNum} {r : Reported} (ht : reportTeaches s r = true)
    (hrecord : s.tm.record = none) (hhalt : r.halt = none) :
    judgeReport n r s = s.withTm { s.tm with epoch := r.epoch } := by
  simp [judgeReport, ht, reportHalts, reportClears, hrecord, hhalt]

/-- The halt that a report brings (R150). -/
theorem judgeReport_halts {n : NodeNum} {r : Reported} {c : Cause} (ht : reportTeaches s r = false)
    (hh : reportHalts s r = true) (hc : r.halt = some c) :
    judgeReport n r s = remoteHalt c n r.lift none s := by
  simp [judgeReport, ht, hh, hc]

/-- Catch-up with the epoch of a report (R156). -/
theorem judgeReport_clears {n : NodeNum} {r : Reported} {e : Byte} (ht : reportTeaches s r = false)
    (hh : reportHalts s r = false) (hc : reportClears s r = true) (he : r.epoch = some e) :
    judgeReport n r s = takeClear e s := by
  simp [judgeReport, ht, hh, hc, he]

/-- A report that teaches, halts and clears nothing (R29, R150, R156). -/
theorem judgeReport_idle {n : NodeNum} {e : Byte} {r : ReportBody}
    (h : r.epochKnown = false ∨ match s.tm.record with
        | none => s.tm.epoch.isSome = true ∧ (r.halt = none ∨ s.tm.epoch ≠ some e)
        | some h => if h.remote = true then r.halt.isSome = true ∨ s.tm.epoch = some e
            else s.tm.epoch.isSome = true) :
    judgeReport n (reportedOf e r) s = s := by
  have hhalt : (reportedOf e r).halt = r.halt := rfl
  rcases h with h | h
  · have hepoch : (reportedOf e r).epoch = none := by rw [reportedOf_epoch, h]; rfl
    refine judgeReport_of_not ?_ ?_ ?_
    · simp [reportTeaches, hepoch]
    · cases hk : s.tm.epoch <;> simp [reportHalts, hepoch, hk]
    · simp [reportClears, hepoch]
  · have hepoch := reportedOf_epoch e r
    cases hr : s.tm.record with
    | none =>
      simp only [hr] at h
      obtain ⟨hk, h⟩ := h
      obtain ⟨k, hk⟩ := Option.isSome_iff_exists.1 hk
      refine judgeReport_of_not (by simp [reportTeaches, hk]) ?_ (by simp [reportClears, hr])
      rw [hk] at h
      cases hek : r.epochKnown
      · simp [reportHalts, hepoch, hek, hk]
      · rcases h with h | h
        · simp [reportHalts, hhalt, h]
        · simp only [reportHalts, hepoch, hek, hk, if_true]
          have : (some e == some k) = false := by simpa using fun hh => h (by rw [hh])
          simp [this]
    | some x =>
      simp only [hr] at h
      have hh : reportHalts s (reportedOf e r) = false := by simp [reportHalts, isHalted, hr]
      by_cases hx : x.remote = true
      · rw [if_pos hx] at h
        refine judgeReport_of_not (by simp [reportTeaches, hr, hx]) hh ?_
        rcases h with h | h
        · simp [reportClears, hhalt, Option.isNone_iff_eq_none, Option.isSome_iff_ne_none.1 h]
        · cases hek : r.epochKnown <;> simp [reportClears, hepoch, hek, h]
      · rw [if_neg hx] at h
        obtain ⟨k, hk⟩ := Option.isSome_iff_exists.1 h
        exact judgeReport_of_not (by simp [reportTeaches, hk]) hh (by simp [reportClears, hr, hx])

theorem reportRecorded_entry (n : NodeNum) (e : Byte) (r : ReportBody) (s : State) :
    (reportRecorded n e r s).pt.entry n = recordReport s.ps.fingerprint e r (s.pt.entry n) := by
  simp [reportRecorded]

theorem reportRecorded_other {n j : NodeNum} (h : j ≠ n) (e : Byte) (r : ReportBody) (s : State) :
    (reportRecorded n e r s).pt.entry j = s.pt.entry j := by
  simp [reportRecorded, PeerTable.entry_setEntry_other _ _ h]

/-- A record of a REPORT touches the table and the latch alone. -/
theorem reportRecorded_eq (n : NodeNum) (e : Byte) (r : ReportBody) (s : State) :
    reportRecorded n e r s =
      { s with
        pt := s.pt.setEntry n (recordReport s.ps.fingerprint e r (s.pt.entry n))
        sp := { s.sp with latch :=
          if (s.pt.entry n).state = .unlisted then s.sp.latch ||| 0x80 else s.sp.latch } } := by
  unfold reportRecorded
  by_cases h : (s.pt.entry n).state = .unlisted
  · rw [show ((s.pt.entry n).state == .unlisted) = true by simp [h], if_pos h]; rfl
  · rw [show ((s.pt.entry n).state == .unlisted) = false by simp [h], if_neg h]; rfl

end Sys2Proof.Machine

open Sys2Proof Sys2Proof.Machine Sys2Proof.Safety

/-- Settles O13: the record of the report is all that is left of it. -/
theorem reportIsRecorded : Obligations.ReportIsRecorded := by
  intro s p n e r h hwf hnot
  have ⟨hp, _⟩ := h
  have htaken : takeReport n e r (lineIdle n s) = reportRecorded n e r (lineIdle n s) := by
    rw [takeReport_eq]
    split
    · next hlive =>
      have hleaves : LeavesLive s n r.fingerprint := (recordReport_live_iff n e r (lineIdle n s)).1 hlive
      refine judgeReport_idle ?_
      rw [show (reportRecorded n e r (lineIdle n s)).tm = s.tm by rw [reportRecorded_eq]; rfl]
      exact hnot.resolve_left (not_not_intro hleaves)
    · rfl
  have hstate (f : Option Word) (w : Word) (st : EntryState) : stateAfterReport f w st =
      match st with
      | .unlisted | .stranger => .stranger
      | .expected | .live | .mismatched | .silent => if f = some w then .live else .mismatched
      | .self => .self := by cases st <;> rfl
  refine ⟨_, exec_report h e hwf, ?_⟩
  rw [htaken]
  refine ⟨?_, ?_, fun j hj => by rw [reportRecorded_other hj]; rfl, ?_⟩
  · rw [reportRecorded_eq, lineIdle_of_plan hp]
  · rw [reportRecorded_entry, recordReport, hstate]
    rfl
  · rw [reportRecorded_eq]
    exact ⟨rfl, rfl, rfl, rfl, rfl, rfl, rfl, rfl, rfl⟩

/-- Settles O14: the report teaches, or halts as a HALT does. -/
theorem liveReportActs : Obligations.LiveReportActs := by
  intro s p n e r h hwf hknown ⟨hrecord, hphase⟩ hstate hfp
  have hlive := (recordReport_live_iff n e r (lineIdle n s)).2 ⟨hstate, hfp⟩
  have hepoch : (reportedOf e r).epoch = some e := by rw [reportedOf_epoch, hknown]; rfl
  have htaken : takeReport n e r (lineIdle n s) =
      judgeReport n (reportedOf e r) (reportRecorded n e r (lineIdle n s)) := by
    rw [takeReport_eq, if_pos hlive]
  have hblocks := reportRecorded_eq n e r (lineIdle n s)
  have hentry := reportRecorded_entry n e r (lineIdle n s)
  generalize reportRecorded n e r (lineIdle n s) = u at htaken hblocks hentry
  have htm : u.tm = s.tm := by rw [hblocks]; rfl
  refine ⟨fun hunknown hhalt => ⟨_, exec_report h e hwf, ?_⟩, fun c hown hhalt he hd => ⟨_, exec_report h e hwf, ?_⟩⟩
  · have hteaches : reportTeaches u (reportedOf e r) = true := by
      simp [reportTeaches, htm, hunknown, hrecord, hepoch]
    rw [htaken, judgeReport_teaches hteaches (by rw [htm, hrecord]) (show (reportedOf e r).halt = none from hhalt),
      hepoch]
    refine ⟨by rw [State.withTm_tm, htm], ?_, ?_, ?_⟩
    · rw [State.withTm_phc, hblocks]; rfl
    · rw [State.withTm_su, hblocks]; rfl
    · rw [State.withTm_pt, hentry]; exact hlive
  · have hteaches : reportTeaches u (reportedOf e r) = false := by simp [reportTeaches, htm, hown]
    have hn : (reportedOf e r).halt = some c := hhalt
    have hhalts : reportHalts u (reportedOf e r) = true := by
      simp [reportHalts, isHalted, htm, hown, hrecord, hepoch, hn]
    have hcie : u.ci = s.ci := by rw [hblocks]; rfl
    rw [htaken, judgeReport_halts hteaches hhalts hn]
    refine ⟨?_, ?_, ?_⟩
    · have hlift : sampleLift u = sampleLift s := by rw [hblocks]; rfl
      have hsu : u.su = s.su := by rw [hblocks]; rfl
      rw [remoteHalt, hlift, hsu]
      refine haltedWith_of_same (applyHalt_haltedWith _ (s := u) ?_) hcie hsu (by rw [htm]) ?_ ?_ <;> rw [hblocks]
      · exact hphase
      all_goals rfl
    · rw [remoteHalt, applyHalt_flags _ (by rwa [hcie]) (by rwa [hcie]), htm]
    · rw [remoteHalt_pt, hentry]; exact hlive

/-- Settles O26: catch-up clears a remote halt without flags, and passes a local one over. -/
theorem catchUpEndsRemoteHalt : Obligations.CatchUpEndsRemoteHalt := by
  intro s p n e r hr h hwf hknown hhalt hrecord hphase hstate hfp hk hne
  have ⟨hp, _⟩ := h
  have hlive := (recordReport_live_iff n e r (lineIdle n s)).2 ⟨.inr (.inl hstate), hfp⟩
  have hepoch : (reportedOf e r).epoch = some e := by rw [reportedOf_epoch, hknown]; rfl
  have hnone : (reportedOf e r).halt = none := hhalt
  have htaken : takeReport n e r (lineIdle n s) =
      judgeReport n (reportedOf e r) (reportRecorded n e r (lineIdle n s)) := by
    rw [takeReport_eq, if_pos hlive]
  have hblocks := reportRecorded_eq n e r (lineIdle n s)
  generalize reportRecorded n e r (lineIdle n s) = u at htaken hblocks
  have htm : u.tm = s.tm := by rw [hblocks]; rfl
  obtain ⟨k, hk⟩ := Option.isSome_iff_exists.1 hk
  have hteaches : reportTeaches u (reportedOf e r) = false := by simp [reportTeaches, htm, hk]
  have hhalts : reportHalts u (reportedOf e r) = false := by simp [reportHalts, hnone]
  refine ⟨fun hremote hflags hsession hq hc hdone hrun => ⟨_, exec_report h e hwf, ?_⟩,
    fun hlocal => ⟨_, exec_report h e hwf, ?_⟩⟩
  · have hclears : reportClears u (reportedOf e r) = true := by
      have hke : e ≠ k := fun hh => hne (by rw [hk, hh])
      simp [reportClears, htm, hrecord, hremote, hepoch, hnone, hk, hke]
    have hci : u.ci = s.ci := by rw [hblocks]; rfl
    have hphc : u.phc = s.phc := by rw [hblocks]; rfl
    have hkept : keptFlags u = 0 := keptFlags_eq_zero fun c hflag => by
      rw [htm, hflags] at hflag; simp [hasFlag] at hflag
    have hcleared : takeClear e u =
        enterPhase (phaseOnClear (clearSteps p e u)) (latchEvent .haltCleared (clearSteps p e u)) :=
      takeClear_cleared (by rw [hblocks]; exact hp) e hkept (by rw [htm, hrecord]; rfl) (by rw [hphc, hphase])
        (by rw [hblocks]; exact hsession) (by unfold NothingTrips; rw [hci]; exact hq)
    have hidle : phaseOnClear (clearSteps p e u) = .idle := by
      rw [phaseOnClear_clearSteps, hphc, hci, hdone, if_neg (by simp), if_neg (by omega)]
    rw [htaken, judgeReport_clears hteaches hhalts hclears hepoch, hcleared, hidle]
    exact ⟨by simp, by simp [clearSteps_eq], by simp, (latched_latchEvent .haltCleared _).enterPhase _⟩
  · have hclears : reportClears u (reportedOf e r) = false := by simp [reportClears, htm, hrecord, hlocal]
    rw [htaken, judgeReport_of_not hteaches hhalts hclears, hblocks]
    exact ⟨rfl, rfl, rfl⟩

/-- Settles O24: the clear of a running node, and of a halt whose causes are gone. -/
theorem clearIsTaken : Obligations.ClearIsTaken := by
  refine ⟨fun s p n e h hm ⟨hrecord, _⟩ hflags hside => ⟨_, exec_clear h hm e, ?_⟩,
    fun s p n e h hm hphase hrecord hgone hsession hq hc => ⟨_, exec_clear h hm e, ?_⟩⟩
  · have ⟨hp, _⟩ := h
    have hkept : keptFlags (lineIdle n s) = 0 := keptFlags_eq_zero fun c hflag => by
      rw [lineIdle_tm, hflags] at hflag; simp [hasFlag] at hflag
    have hunflagged : hasFlag (epochTaken e (lineIdle n s)).tm.flags .noReference = false := by
      show hasFlag s.tm.flags .noReference = false
      rw [hflags]; decide
    have hrun : isHalted (lineIdle n s) = false := by simp [isHalted, hrecord]
    rw [takeClear_running (s := lineIdle n s) hp e hkept hrecord, clearSteps_eq, hkept, hrun,
      resolveReference_unflagged hunflagged, lineIdle_of_plan hp]
    refine ⟨?_, rfl, fun j => PeerTable.entry_markStale s.pt j, rfl, rfl, rfl, rfl, rfl, rfl, rfl⟩
    simp only [epochTaken, State.withTm_tm, ← hrecord, ← hflags, hside, ite_self]
  · have ⟨hp, _⟩ := h
    have hkept : keptFlags (lineIdle n s) = 0 := keptFlags_eq_zero hgone
    have hcleared := takeClear_cleared (s := lineIdle n s) (p := p) hp e hkept hrecord hphase hsession hq
    have hphase' := phaseOnClear_clearSteps (p := p) e (lineIdle n s)
    have hsteps : clearSteps p e (lineIdle n s) = (epochTaken e (lineIdle n s)).withTm { s.tm with
        epoch := some e, record := none, flags := 0, travelSide := none } := by
      rw [clearSteps_eq, hkept, resolveReference_known (s := epochTaken e (lineIdle n s)) hc]; rfl
    rw [hcleared, hphase', hsteps]
    refine ⟨by simp, by simp, by simp, by simp, by simp, (latched_latchEvent .haltCleared _).enterPhase _,
      by simp [epochTaken], by simp [epochTaken], by simp [epochTaken], fun j => ?_⟩
    simp [epochTaken]

/-- Settles O25: an open emergency-stop loop halts again, and a loaded column adopts its reference. -/
theorem clearReevaluates : Obligations.ClearReevaluates := by
  refine ⟨fun s p n e h hm hphase hrecord hflag hestop hurgent => ⟨_, exec_clear h hm e, ?_⟩,
    fun s p n e x h hm hphase hrecord hflags hsession hdone hq hrun hc hh => ?_⟩
  · have ⟨hp, _⟩ := h
    have hkept (c : Cause) := hasFlag_keptFlags (lineIdle n s) c
    have hestop' : hasFlag (keptFlags (lineIdle n s)) .estop = true := (hkept .estop).2 ⟨hflag, rfl, hestop⟩
    have hsteps := clearSteps_eq p e (lineIdle n s)
    have htaken : takeClear e (lineIdle n s) = localHalt .estop none (clearSteps p e (lineIdle n s)) := by
      have hlow : lowestFlag (clearSteps p e (lineIdle n s)).tm.flags = some .estop := by
        rw [hsteps]; exact lowestFlag_estop hestop'
      rw [lineIdle] at hlow ⊢
      simp [takeClear, hp, hlow]
    have hu : (clearSteps p e (lineIdle n s)).ps.plan = some p := by simp [hp]
    have hlau : (clearSteps p e (lineIdle n s)).lau.urgent = [] := by rw [clearSteps_lau]; exact hurgent
    have hph : (clearSteps p e (lineIdle n s)).phc.phase = .halted := by simpa using hphase
    have hepoch : (clearSteps p e (lineIdle n s)).tm.epoch = some e := by rw [hsteps]; rfl
    have hflags : (clearSteps p e (lineIdle n s)).tm.flags = keptFlags (lineIdle n s) := by rw [hsteps]; rfl
    have hlift : sampleLift (clearSteps p e (lineIdle n s)) = sampleLift s := by simp [sampleLift]
    have hsu : (clearSteps p e (lineIdle n s)).su = s.su := by simp
    rw [htaken]
    generalize clearSteps p e (lineIdle n s) = u at hu hlau hph hepoch hflags hlift hsu
    obtain ⟨hrec, hhalted, -, -, -, hnone⟩ :=
      applyHalt_spec (localRecord .estop none u) (compose (haltFrame .estop none u) u)
    have hflags' : (localHalt .estop none u).tm.flags = keptFlags (lineIdle n s) := by
      simp [localHalt, applyHalt, haltOrder, hph, hflags]
    refine ⟨hhalted, by simp [localHalt, applyHalt, hepoch], ?_, fun c hflag => ?_, by rw [hflags']; exact hestop', ?_,
      hnone, latchEvent_haltEntered _⟩
    · rw [localHalt, hrec, localRecord, ownNode_of_plan hu, hlift, hsu]
    · rw [hflags'] at hflag
      obtain ⟨hset, hpersist, -⟩ := (hkept c).1 hflag
      exact ⟨hpersist, hset⟩
    · rw [localHalt_urgent hu, hlau, haltFrame_of_plan hu, haltOf, hepoch, hlift]
      rfl
  · have ⟨hp, _⟩ := h
    have hgone : ∀ c, hasFlag s.tm.flags c = true → ¬ ConditionStands s c := fun c hflag => by
      rcases hflags with hf | hf <;> rw [hf] at hflag
      · have hzero := hasFlag_withFlag 0#16 .noReference c
        rw [withFlag, BitVec.zero_or, hflag] at hzero
        obtain rfl : Cause.noReference = c := by simpa [hasFlag] using hzero
        exact id
      · simp [hasFlag] at hflag
    have hkept : keptFlags (lineIdle n s) = 0 := keptFlags_eq_zero hgone
    have hhalted : isHalted (lineIdle n s) = true := by simpa [isHalted] using hrecord
    have hcleared := takeClear_cleared (s := lineIdle n s) (p := p) hp e hkept hrecord hphase hsession hq
    have hhold : phaseOnClear (clearSteps p e (lineIdle n s)) = .hold := by
      rw [phaseOnClear_clearSteps, lineIdle_phc, lineIdle_ci, hdone, if_neg (by simp), if_pos hrun]
    have hadopts := resolveReference_adopts (p := p) (s := epochTaken e (lineIdle n s)) hc hh hrun hdone
    refine ⟨_, referenceLift p s.pt, exec_clear h hm e, referenceLift_spec p s.pt, ?_⟩
    rw [hcleared, hhold, clearSteps_eq, hkept, hhalted, hadopts]
    have hlift : referenceLift p (epochTaken e (lineIdle n s)).pt = referenceLift p s.pt :=
      referenceLift_markStale p s.pt
    rw [hlift]
    exact ⟨by rw [enterPhase_ci]; exact congrArg some (clampHeight_toNat _), by simp, by simp, by simp,
      by simpa [isResting, epochTaken] using hh,
      by simp⟩
end

section
/-! PROOFS. The control period expiry: the Peer Table ages, a peer falls silent, and the keep count decides (R10,
R31 to R33, R42, R82, R92, R99). -/

namespace Sys2Proof.Machine

open Sys2Proof Sys2Proof.Safety

variable {s : State} {p : Plan}

/-! ### The expiry without its trips (R31, R42, R99) -/

/-- The timer re-armed and the table aged. -/
def tableAged (p : Plan) (s : State) : State :=
  (s.withPu { s.pu with timer := some (periodTime p) }).withPt (s.pt.age p.kSil)

/-- The position read started (R42). -/
def readStarted (s : State) : State := s.withCi { s.ci with read := .inFlight }

theorem exec_expiry (hp : s.ps.plan = some p) (ht : s.pu.timer.isSome = true) :
    exec .controlPeriodExpiry s = .next (controlExpiry p s) := by
  obtain ⟨n, hn⟩ := Option.isSome_iff_exists.1 ht
  simp [exec, execControlPeriodExpiry, hp, hn]

/-- An expiry at which no watched peer falls silent. -/
theorem controlExpiry_quiet
    (h : fallingSilent p.kSil s.pt = [] ∨ (isMoving s.phc.phase = false ∧ s.su.session = none)) :
    controlExpiry p s = composeKeep (advanceKeep p (readStarted (tableAged p s))) := by
  have hage : agePeers p (s.withPu { s.pu with timer := some (periodTime p) }) = tableAged p s := by
    rcases h with h | ⟨hm, hs⟩
    · simp only [agePeers, State.withPu_pt, h, ite_self]; rfl
    · simp [agePeers, hm, hs, tableAged]
  rw [controlExpiry, hage]
  rfl

theorem ageEntry_fresh (k : Nat) (e : PeerEntry) : (ageEntry k e).fresh = false := by
  unfold ageEntry
  split
  · split <;> rfl
  · split <;> rfl
  · split <;> rfl
  all_goals rfl

theorem ageEntry_falls {k : Nat} {e : PeerEntry} (h : e.state = .live ∨ e.state = .mismatched)
    (hk : k ≤ e.silence + 1) : ageEntry k e = { e with state := .silent, silence := k, fresh := false } := by
  rcases h with h | h <;> simp [ageEntry, h, hk]

theorem ageEntry_forgotten {k : Nat} {e : PeerEntry} (h : e.state = .stranger) (hk : k ≤ e.silence + 1) :
    ageEntry k e = .blank .unlisted := by
  simp [ageEntry, h, hk]

theorem ageEntry_counts {k : Nat} {e : PeerEntry}
    (h : e.state = .live ∨ e.state = .mismatched ∨ e.state = .stranger) (hk : e.silence + 1 < k) :
    ageEntry k e = { e with silence := e.silence + 1, fresh := false } := by
  rcases h with h | h | h <;> simp [ageEntry, h, Nat.not_le.2 hk]

theorem ageEntry_stays {k : Nat} {e : PeerEntry}
    (h : e.state = .unlisted ∨ e.state = .expected ∨ e.state = .silent ∨ e.state = .self) :
    ageEntry k e = { e with fresh := false } := by
  rcases h with h | h | h | h <;> simp [ageEntry, h]

/-! ### A LIVE peer falls silent (R33) -/

theorem fallingSilent_mem {k : Nat} {t : PeerTable} {j : NodeNum} :
    j ∈ fallingSilent k t ↔ (t.entry j).state = .live ∧ k ≤ (t.entry j).silence + 1 := by
  simp [fallingSilent, mem_allNodes]

/-- The first of the numbers that satisfy a test heads their list. -/
theorem filter_allNodes_head {q : NodeNum → Bool} {j : NodeNum} (hj : q j = true)
    (hfirst : ∀ i, i < j → q i = false) : ∃ rest, allNodes.filter q = j :: rest := by
  obtain ⟨a, b, hsplit⟩ := List.append_of_mem (mem_allNodes j)
  have hsorted : allNodes.Pairwise (· < ·) := List.pairwise_lt_finRange 64
  rw [hsplit, List.pairwise_append] at hsorted
  have ha : a.filter q = [] := List.filter_eq_nil_iff.2 fun i hi => by
    simp [hfirst i (hsorted.2.2 i hi j (by simp))]
  exact ⟨b.filter q, by rw [hsplit, List.filter_append, ha, List.filter_cons_of_pos hj, List.nil_append]⟩

/-- On a halted node the other peers that fall silent set their flag alone (R140). -/
theorem fallSilent_halted (js : List NodeNum) {s : State} (hp : s.ps.plan.isSome = true)
    (hr : s.tm.record.isSome = true) :
    ∃ tm, js.foldl (fun t j => trip .peerSilent none (some j) t) s = s.withTm tm ∧ tm.record = s.tm.record
      ∧ (hasFlag s.tm.flags .peerSilent = true → hasFlag tm.flags .peerSilent = true) := by
  induction js generalizing s with
  | nil => exact ⟨s.tm, rfl, rfl, id⟩
  | cons j js ih =>
    obtain ⟨tm, htm, hrec, hflag⟩ := ih (s := setFlag .peerSilent none s) hp hr
    refine ⟨tm, ?_, hrec, fun _ => hflag (by simp [hasFlag_withFlag])⟩
    rw [List.foldl_cons, trip_halted _ _ _ hp hr, htm]
    rfl

/-- The expiry at which a peer falls silent: the halt, and the position read. -/
theorem controlExpiry_silent (hp : s.ps.plan = some p) (hr : s.tm.record = none)
    (hw : isMoving s.phc.phase = true ∨ s.su.session.isSome = true) {j : NodeNum} {rest : List NodeNum}
    (hs : fallingSilent p.kSil s.pt = j :: rest) :
    ∃ tm, controlExpiry p s = readStarted ((trip .peerSilent none (some j) (tableAged p s)).withTm tm)
      ∧ tm.record = (trip .peerSilent none (some j) (tableAged p s)).tm.record
      ∧ hasFlag tm.flags .peerSilent = true := by
  have hplan : (tableAged p s).ps.plan.isSome = true := by
    show s.ps.plan.isSome = true
    rw [hp]; rfl
  have hhalts := trip_running (c := .peerSilent) (d := none) (n := some j) hplan hr
  obtain ⟨hrec, hphase, -, -, -, hsession⟩ := applyHalt_spec
    (localRecord .peerSilent (some j) (setFlag .peerSilent none (tableAged p s)))
    (compose (haltFrame .peerSilent (some j) (setFlag .peerSilent none (tableAged p s)))
      (setFlag .peerSilent none (tableAged p s)))
  rw [← localHalt, ← hhalts] at hrec hphase hsession
  obtain ⟨tm, htm, hrecord, hflag⟩ := fallSilent_halted rest (s := trip .peerSilent none (some j) (tableAged p s))
    (by rw [trip_ps]; exact hplan) (by rw [hrec]; rfl)
  refine ⟨tm, ?_, hrecord, hflag (trip_hasFlag _ _ _ hplan)⟩
  have hage : agePeers p (s.withPu { s.pu with timer := some (periodTime p) }) =
      (trip .peerSilent none (some j) (tableAged p s)).withTm tm := by
    have hwatched : (isMoving s.phc.phase || s.su.session.isSome) = true := by simpa using hw
    rw [← htm]
    simp only [agePeers, State.withPu_phc, State.withPu_su, State.withPu_pt, hwatched, if_true, hs, List.foldl_cons]
    rfl
  rw [controlExpiry, hage]
  generalize trip .peerSilent none (some j) (tableAged p s) = u at hphase hsession
  have hkeep : advanceKeep p (readStarted (u.withTm tm)) = readStarted (u.withTm tm) := by
    simp [advanceKeep, readStarted, hsession]
  have hdeaf : composeKeep (readStarted (u.withTm tm)) = readStarted (u.withTm tm) := by
    simp [composeKeep, readStarted, hphase, isDeaf]
  show composeKeep (advanceKeep p (readStarted (u.withTm tm))) = _
  rw [hkeep, hdeaf]

/-! ### The KEEP of an expiry (R10, R82) -/

theorem composeKeep_silent (h : isDeaf s.phc.phase = true ∨ keepDue s.su = none) : composeKeep s = s := by
  rcases h with h | h
  · simp [composeKeep, h]
  · simp [composeKeep, h]

theorem composeKeep_due {m : Motion} (hd : isDeaf s.phc.phase = false) (hm : keepDue s.su = some m) :
    composeKeep s = composeMotion m s := by
  simp [composeKeep, hd, hm]

/-- A KEEP that is composed changes the lanes and the deferral alone. -/
theorem composeKeep_withLau (s : State) : ∃ l, composeKeep s = s.withLau l := by
  unfold composeKeep
  split
  · exact ⟨s.lau, rfl⟩
  · split
    · next m _ =>
      rcases compose_cases (ownMotion m s) s with ⟨-, e⟩ | ⟨p, -, e⟩
      · exact ⟨s.lau, e⟩
      · exact ⟨_, e⟩
    · exact ⟨s.lau, rfl⟩

theorem keepDue_waiting {k : Token} {d : Direction} {q : Preset} (hw : s.su.press = .waiting k d q)
    (hs : s.su.session = none) : keepDue s.su = some (.keep d k.sequence q) := by
  simp [keepDue, hw, hs]

theorem keepDue_unsessioned (hs : s.su.session = none) (hw : ∀ k d q, s.su.press ≠ .waiting k d q) :
    keepDue s.su = none := by
  unfold keepDue
  cases h : s.su.press with
  | waiting k d q => exact absurd h (hw k d q)
  | none | held | spent => simp [hs]

theorem keepDue_held {ss : Session} {d : Direction} {q : Preset} (hs : s.su.session = some ss)
    (hh : s.su.press = .held ss.token d q) : keepDue s.su = some (.keep d ss.token.sequence q) := by
  simp [keepDue, hs, hh]

theorem keepDue_other {ss : Session} (hs : s.su.session = some ss)
    (hh : ∀ d q, s.su.press ≠ .held ss.token d q) : keepDue s.su = none := by
  unfold keepDue
  cases h : s.su.press with
  | held k d q =>
    have hne : ss.token ≠ k := fun e => hh d q (by rw [h, e])
    simp [hs, hne]
  | none | waiting | spent => simp [hs]

/-- A composed KEEP is dropped behind a START of its token, and otherwise dealt with as any MOTION (R9, R10). -/
theorem keepJoins_joinLane {f : Frame} (hf : frameKind f = .motion) (lane : List Queued) :
    KeepJoins lane f (joinLane lane f) := by
  have hkept {q : Queued} (hq : frameKind f = frameKind q.frame) :
      keepsQueued q.frame f = true ↔ KeepOfStart q.frame f := by
    rw [keepsQueued_iff hq, ← hq, hf]; simp
  have hfind {a b : List Queued} {old : Queued} (hold : frameKind old.frame = frameKind f)
      (hothers : ∀ q ∈ a ++ b, frameKind q.frame ≠ frameKind f) :
      (a ++ old :: b).find? (fun q => frameKind q.frame == frameKind f) = some old := by
    rw [List.find?_append, List.find?_eq_none.2
      (by simpa using fun q hq => hothers q (List.mem_append_left b hq))]
    simp [hold]
  refine ⟨fun hnot => ⟨joinLane_absent, ?_⟩, ?_⟩
  · rintro a old b rfl hold hothers
    have hreplaced : (a ++ old :: b).map (replacedBy f) = a ++ { old with frame := f } :: b := by
      rw [List.map_append, List.map_cons, replacedBy_same hold,
        map_replacedBy_others fun q hq => hothers q (List.mem_append_left b hq),
        map_replacedBy_others fun q hq => hothers q (List.mem_append_right a hq)]
    have hkeeps : ¬ keepsQueued old.frame f = true := fun h => hnot old (by simp) ((hkept hold.symm).1 h)
    rw [joinLane, hfind hold hothers, ← hreplaced]
    exact if_neg hkeeps
  · rintro a old b rfl hstart hothers
    have hold : frameKind old.frame = frameKind f := by
      obtain ⟨-, _, _, _, _, _, hbody, -⟩ := hstart
      rw [hf]; simp [frameKind, hbody]
    rw [joinLane, hfind hold hothers]
    exact if_pos ((hkept hold.symm).2 hstart)

/-- The KEEP that an expiry composes joins the normal lane, and leaves the urgent one and the transmitter. -/
theorem composeKeep_joins {d : Direction} {k : Byte} {q : Preset} {u : State} (hp : u.ps.plan = some p)
    (hlau : u.lau = s.lau) (htm : u.tm.epoch = s.tm.epoch) (hd : isDeaf u.phc.phase = false)
    (hm : keepDue u.su = some (.keep d k q)) :
    KeepJoins s.lau.normal (motionOf p s (.keep d k q)) (composeKeep u).lau.normal
      ∧ (composeKeep u).lau.urgent = s.lau.urgent ∧ (composeKeep u).lau.transmitter = s.lau.transmitter := by
  rw [composeKeep_due hd hm, composeMotion_normal hp, motionOf_of_epoch htm, composeMotion_urgent,
    (composeMotion_joined (.keep d k q) .refl).receiver.transmitter, hlau]
  exact ⟨keepJoins_joinLane rfl _, rfl, rfl⟩

/-! ### The keep count (R92) -/

theorem advanceKeep_below {ss : Session} (hs : s.su.session = some ss) (hk : ss.keep + 1 < p.kKeep) :
    advanceKeep p s = s.withSu { s.su with session := some { ss with keep := ss.keep + 1 } } := by
  simp [advanceKeep, hs, Nat.not_le.2 hk]

theorem advanceKeep_lost {ss : Session} (hs : s.su.session = some ss) (hk : p.kKeep ≤ ss.keep + 1) :
    advanceKeep p s =
      endSession .keepLost (s.withSu { s.su with session := some { ss with keep := ss.keep + 1 } }) := by
  simp [advanceKeep, hs, hk]

theorem advanceKeep_none (hs : s.su.session = none) : advanceKeep p s = s := by simp [advanceKeep, hs]

theorem isDeaf_stoppedPhase (ph : Phase) : isDeaf (stoppedPhase ph) = isDeaf ph := by cases ph <;> rfl

/-- The end of a session keeps the deaf phases deaf, and no other (R73). -/
theorem isDeaf_sessionEnded {c : StopCause} {ss : Session} {s t : State} (h : SessionEnded c ss s t) :
    isDeaf t.phc.phase = isDeaf s.phc.phase := by
  obtain ⟨hmoving, hrest, -, -⟩ := h
  cases hm : isMoving s.phc.phase
  · obtain ⟨-, hphase, -⟩ := hrest hm
    rw [hphase]
    split
    · next hc => rw [hc]; rfl
    · rfl
  · obtain ⟨-, hphase, -⟩ := hmoving hm
    rw [hphase, isDeaf_stoppedPhase]

theorem sessionEnded_session {c : StopCause} {ss : Session} {s t : State} (h : SessionEnded c ss s t) :
    t.su.session = none := by
  obtain ⟨hmoving, hrest, -, -⟩ := h
  cases hm : isMoving s.phc.phase
  · exact (hrest hm).1
  · exact (hmoving hm).1

end Sys2Proof.Machine

open Sys2Proof Sys2Proof.Machine Sys2Proof.Safety

/-- Settles O15: without session and press the expiry is the table's ageing and the read. -/
theorem expiryAgesTable : Obligations.ExpiryAgesTable := by
  intro s p hp ht hs hpress hm
  have hquiet : controlExpiry p s = readStarted (tableAged p s) := by
    rw [controlExpiry_quiet (.inr ⟨hm, hs⟩), advanceKeep_none (s := readStarted (tableAged p s)) hs]
    exact composeKeep_silent (.inr (keepDue_unsessioned (s := readStarted (tableAged p s)) hs
      (by simp [readStarted, tableAged, hpress])))
  have hentry (j : NodeNum) : (readStarted (tableAged p s)).pt.entry j = ageEntry p.kSil (s.pt.entry j) :=
    PeerTable.entry_age p.kSil s.pt j
  refine ⟨_, exec_expiry hp ht, ?_⟩
  rw [hquiet]
  refine ⟨rfl, rfl, fun j => mem_freshNodes s.pt j, freshNodes_nodup s.pt,
    fun j => by rw [hentry, ageEntry_fresh], fun j h hk => by rw [hentry, ageEntry_falls h hk],
    fun j h hk => by rw [hentry, ageEntry_forgotten h hk]; rfl, fun j h hk => by rw [hentry, ageEntry_counts h hk],
    fun j h => by rw [hentry, ageEntry_stays h], rfl, rfl, rfl, rfl, rfl, rfl⟩

/-- Settles O16: the first peer that falls silent trips, and the others find the node halted. -/
theorem silentPeerHalts : Obligations.SilentPeerHalts := by
  intro s p j hp ht hr hw hlive hk hfirst
  obtain ⟨rest, hrest⟩ : ∃ rest, fallingSilent p.kSil s.pt = j :: rest :=
    filter_allNodes_head (by simp [hlive, hk]) fun i hi => by
      by_cases h : (s.pt.entry i).state = .live
      · simpa [h] using hfirst i hi h
      · simp [h]
  obtain ⟨tm, hexpiry, hrecord, hflag⟩ := controlExpiry_silent hp hr hw hrest
  refine ⟨_, exec_expiry hp ht, ?_⟩
  rw [hexpiry]
  have hplan : (tableAged p s).ps.plan = some p := hp
  have htrip : trip .peerSilent none (some j) (tableAged p s) =
      localHalt .peerSilent (some j) (setFlag .peerSilent none (tableAged p s)) :=
    trip_running (by rw [hplan]; rfl) hr
  have hentry : ((tableAged p s).pt.entry j).state = .silent := by
    rw [show (tableAged p s).pt.entry j = ageEntry p.kSil (s.pt.entry j) from PeerTable.entry_age _ _ _,
      ageEntry_falls (.inl hlive) hk]
  rw [htrip] at hrecord ⊢
  generalize hu : setFlag .peerSilent none (tableAged p s) = u
  have hown : localRecord .peerSilent (some j) u =
      { cause := .peerSilent, originator := p.node, remote := false, originatorLift := sampleLift s,
        ownLift := sampleLift s, peer := some j, token := s.su.session.map (·.token) } := by
    rw [localRecord, ownNode_of_plan (p := p) (by rw [← hu]; exact hp), ← hu]; rfl
  rw [hu] at hrecord
  obtain ⟨hrec, hphase, hdrive, hbrake, hdemand, hsession⟩ :=
    applyHalt_spec (localRecord .peerSilent (some j) u) (compose (haltFrame .peerSilent (some j) u) u)
  have hci : (localHalt .peerSilent (some j) u).ci = (safeDrive u).ci := by simp [localHalt, applyHalt_ci, safeDrive]
  refine ⟨by rw [← hown]; exact hrecord.trans hrec, hphase, hsession, hdrive, hbrake, hdemand, ?_, rfl, ?_, ?_, hflag⟩
  · have hpt : (localHalt .peerSilent (some j) u).pt = (tableAged p s).pt := by rw [localHalt_pt, ← hu]; rfl
    exact (congrArg (fun t : PeerTable => (t.entry j).state) hpt).trans hentry
  · have hzero := safeDrive_zeroWordSent u
    rw [← hci, ← hu] at hzero
    rw [← hu]
    exact hzero
  · have hspent := applyHalt_pressSpent (localRecord .peerSilent (some j) u)
      (compose (haltFrame .peerSilent (some j) u) u)
    unfold PressSpent at hspent ⊢
    rw [compose_su, compose_ci, ← hu] at hspent
    rw [← hu]
    exact hspent

/-- Settles O17: below K_keep the count rises, at K_keep the session ends, and then the KEEP is composed. -/
theorem keepCountDecides : Obligations.KeepCountDecides := by
  refine ⟨fun s p ss hp ht hs hk hsilent => ?_, fun s p ss hp ht hs hk hgo hsilent => ?_,
    fun s p hp ht hs hsilent => ?_⟩
  · let u : State := (readStarted (tableAged p s)).withSu
      { s.su with session := some { ss with keep := ss.keep + 1 } }
    have hexpiry : controlExpiry p s = composeKeep u := by
      rw [controlExpiry_quiet (.inl hsilent), advanceKeep_below (s := readStarted (tableAged p s)) hs hk]; rfl
    obtain ⟨l, hl⟩ := composeKeep_withLau u
    refine ⟨_, exec_expiry hp ht, by rw [hexpiry, hl]; rfl, fun h => ?_, fun d q hd hheld => ?_,
      by rw [hexpiry, hl]; rfl, by rw [hexpiry, hl]; rfl, by rw [hexpiry, hl]; rfl, by rw [hexpiry, hl]; rfl⟩
    · rw [hexpiry, composeKeep_silent (s := u) (h.imp id fun hh => keepDue_other (s := u) rfl hh)]; rfl
    · rw [hexpiry]
      exact composeKeep_joins (u := u) hp rfl rfl hd
        (keepDue_held (s := u) (ss := { ss with keep := ss.keep + 1 }) rfl hheld)
  · let u : State := (readStarted (tableAged p s)).withSu
      { s.su with session := some { ss with keep := ss.keep + 1 } }
    have hgo' : EndGoesOn u := hgo
    have hexpiry : controlExpiry p s = composeKeep (endSession .keepLost u) := by
      rw [controlExpiry_quiet (.inl hsilent), advanceKeep_lost (s := readStarted (tableAged p s)) hs hk]; rfl
    have hended : SessionEnded .keepLost ss s (endSession .keepLost u) :=
      endSession_sessionEnded (s := u) rfl hgo' .keepLost
    have hlau : (endSession .keepLost u).lau = s.lau := endSession_lau hgo' (by decide)
    have hdeaf := isDeaf_sessionEnded hended
    have hnone := sessionEnded_session hended
    have hpress : (endSession .keepLost u).su.press = pressOnEnd .keepLost ss.token s.su.press := by
      rw [endSession_some (s := u) rfl, (tellEnded_keeps (endGoesOn_recordEnded hgo' _ _) _ _).1]; rfl
    have hps : (endSession .keepLost u).ps.plan = some p := by rw [endSession_ps]; exact hp
    have hepoch : (endSession .keepLost u).tm.epoch = s.tm.epoch := by
      obtain ⟨hmoving, hrest, -, -⟩ := hended
      cases hm : isMoving s.phc.phase
      · obtain ⟨-, -, -, -, -, htm, -⟩ := hrest hm; rw [htm]
      · obtain ⟨-, -, -, -, -, -, -, -, -, -, -, he, -⟩ := hmoving hm; exact he
    generalize endSession .keepLost u = v at hexpiry hended hlau hdeaf hnone hpress hps hepoch
    obtain ⟨l, hl⟩ := composeKeep_withLau v
    refine ⟨_, exec_expiry hp ht, by rw [hexpiry, hl]; exact hended, fun h => ?_, fun k d q hd hw => ?_⟩
    · rw [hexpiry, composeKeep_silent ?_, hlau]
      refine h.imp (hdeaf.trans ·) fun hh => keepDue_unsessioned hnone fun k d q => ?_
      rw [hpress]
      cases hpr : s.su.press with
      | waiting k d q => exact absurd hpr (hh k d q)
      | held k' d' q' => by_cases hk' : k' = ss.token <;> simp [pressOnEnd, hk']
      | none | spent => simp [pressOnEnd]
    · rw [hexpiry]
      exact composeKeep_joins hps hlau hepoch (hdeaf.trans hd)
        (keepDue_waiting (s := v) (by rw [hpress, hw]; rfl) hnone)
  · have hexpiry : controlExpiry p s = composeKeep (readStarted (tableAged p s)) := by
      rw [controlExpiry_quiet (.inl hsilent), advanceKeep_none (s := readStarted (tableAged p s)) hs]
    obtain ⟨l, hl⟩ := composeKeep_withLau (readStarted (tableAged p s))
    refine ⟨_, exec_expiry hp ht, by rw [hexpiry, hl]; rfl, fun h => ?_, fun k d q hd hw => ?_,
      by rw [hexpiry, hl]; rfl, by rw [hexpiry, hl]; rfl, by rw [hexpiry, hl]; rfl, by rw [hexpiry, hl]; rfl⟩
    · rw [hexpiry, composeKeep_silent (s := readStarted (tableAged p s))
        (h.imp id fun hh => keepDue_unsessioned (s := readStarted (tableAged p s)) hs hh)]
      rfl
    · rw [hexpiry]
      exact composeKeep_joins (u := readStarted (tableAged p s)) hp rfl rfl hd
        (keepDue_waiting (s := readStarted (tableAged p s)) hw hs)
end

section
/-! PROOFS. STARTs and KEEPs: sessions accepted, renewed, replaced and in conflict, and the phase that an accepted
one moves (R52, R53, R66, R67, R73, R75, R85 to R90). -/

namespace Sys2Proof.Machine

open Sys2Proof Sys2Proof.Safety

variable {s : State} {p : Plan}

/-! ### A column that starts (R52, R53, R62) -/

/-- The lines of a column at its start: both asserted, and h_c invalid on the way into RETRACT (R49, R52). -/
def columnStarted (new : Phase) (ci : ColumnInterface) : ColumnInterface :=
  setDrive true { ci with contactHeight := if new = .retract then none else ci.contactHeight }

theorem columnAt_starts {old new : Phase} (hnew : isMoving new = true) (hold : isMoving old = false)
    (hready : s.ci.levels.driveReady ≠ some false) (hr : s.tm.record = none) :
    columnAt old new s = s.withCi (columnStarted new s.ci) := by
  by_cases hretract : new = .retract
  · subst hretract
    simp [columnAt, hnew, hold, hready, isHalted, hr, columnStarted]
    rfl
  · simp [columnAt, hretract, hnew, hold, hready, isHalted, hr, columnStarted]

/-- Nothing trips at the entry into a moving phase away from its travel switch (R141). -/
theorem switchCauses_away (h : NothingTrips s) {new : Phase}
    (hup : new = .approach ∨ new = .lift → s.ci.levels.limitUp ≠ some true)
    (hdown : new = .lower ∨ new = .retract → s.ci.levels.limitDown ≠ some true) :
    switchCauses new s.ci.levels = [] := by
  obtain ⟨he, hd, hn, -, -⟩ := h
  cases new <;> simp_all [switchCauses]

theorem nothingTrips_of_levels {s t : State} (hl : t.ci.levels = s.ci.levels) (ho : t.ci.overloadRun = s.ci.overloadRun)
    (hr : t.ci.lossRun = s.ci.lossRun) (h : NothingTrips s) : NothingTrips t := by
  unfold NothingTrips at *
  rwa [hl, ho, hr]

/-- A change into a moving phase that nothing holds back (R52, R62). -/
theorem changePhase_starts {new : Phase} (hnew : isMoving new = true) (hold : isMoving s.phc.phase = false)
    (hready : s.ci.levels.driveReady ≠ some false) (hr : s.tm.record = none) (hq : NothingTrips s)
    (hup : new = .approach ∨ new = .lift → s.ci.levels.limitUp ≠ some true)
    (hdown : new = .lower ∨ new = .retract → s.ci.levels.limitDown ≠ some true) :
    changePhase new s = (enterPhase new s).withCi (columnStarted new s.ci) := by
  have hstarts : columnAt s.phc.phase new (enterPhase new s) = (enterPhase new s).withCi (columnStarted new s.ci) := by
    rw [columnAt_starts hnew hold (by simpa using hready) (by simpa using hr), enterPhase_ci]
  have hquiet : NothingTrips ((enterPhase new s).withCi (columnStarted new s.ci)) :=
    nothingTrips_of_levels rfl rfl rfl hq
  rw [changePhase_passes (fun e => by rw [e, hnew] at hold; cases hold), hstarts] <;> rw [hstarts]
  · exact switchCauses_away hquiet hup hdown
  · exact loadCauses_eq_nil hquiet

/-- Between phases that are not pacing the Pace Unit stays, and PHASE is all that latches (R62, R180). -/
theorem enterPhase_unpaced {new : Phase} (hold : isPacing s.phc.phase = false) (hnew : isPacing new = false) :
    (enterPhase new s).pu = s.pu ∧ (enterPhase new s).sp = { s.sp with latch := s.sp.latch ||| 0x08 } := by
  have hpu := paceAt_still hold hnew s.pu
  refine ⟨by rw [enterPhase_pu, hpu], ?_⟩
  simp [enterPhase, hpu, latchWhen, latchEvent, eventBit, eventIndex]
  rfl

/-! ### The phase that an accepted session moves (R66) -/

/-- What an accepted session does to the column: CONTACT out of HOLD, APPROACH out of IDLE under an adopted plan,
and nothing else (R66, R75). -/
def toldAccepted (d : Direction) (s : State) : State :=
  if d = .up ∧ s.phc.phase = .hold then enterPhase .contact s
  else if d = .up ∧ s.phc.phase = .idle ∧ s.ps.adopted = true then
    (enterPhase .approach s).withCi (setDrive true s.ci)
  else s

theorem tellAccepted_stays {d : Direction} (hstay : ¬ (d = .up ∧ s.phc.phase = .hold)
    ∧ ¬ (d = .up ∧ s.phc.phase = .idle ∧ s.ps.adopted = true)) : tellAccepted d s = s := by
  have hnone : phaseOnAccept s d = none := by
    obtain ⟨h1, h2⟩ := hstay
    unfold phaseOnAccept
    cases d
    · cases hph : s.phc.phase <;> simp_all
    · cases s.phc.phase <;> rfl
  simp [tellAccepted, hnone]

theorem tellAccepted_eq {d : Direction}
    (hgo : d = .up → s.phc.phase = .idle ∨ s.phc.phase = .hold → s.tm.record = none ∧ NothingTrips s)
    (hready : d = .up → s.phc.phase = .idle →
      s.ci.levels.limitUp ≠ some true ∧ s.ci.levels.driveReady ≠ some false) :
    tellAccepted d s = toldAccepted d s := by
  unfold toldAccepted
  split
  · next h =>
    obtain ⟨rfl, hph⟩ := h
    have hstill : columnAt .hold .contact (enterPhase .contact s) = enterPhase .contact s :=
      columnAt_still _ _ _ rfl rfl
    have hchange := changePhase_quiet (hgo rfl (.inr hph)).2 (p := .contact) rfl (by rw [hph]; decide)
    rw [hph, hstill] at hchange
    simp [tellAccepted, phaseOnAccept, hph, hchange]
  · next hhold =>
    split
    · next h =>
      obtain ⟨rfl, hph, ha⟩ := h
      obtain ⟨hr, hq⟩ := hgo rfl (.inl hph)
      obtain ⟨hup, hdr⟩ := hready rfl hph
      have hchange := changePhase_starts (new := .approach) rfl (by rw [hph]; rfl) hdr hr hq (fun _ => hup)
        (fun h => by simp at h)
      simp [tellAccepted, phaseOnAccept, hph, ha, hchange, columnStarted]
    · next hidle => exact tellAccepted_stays ⟨hhold, hidle⟩

/-- The parts of the node that the acceptance leaves, and the phase and column that it gives. -/
structure ToldAccepted (d : Direction) (s t : State) : Prop where
  su : t.su = s.su
  lau : t.lau = s.lau
  pt : t.pt = s.pt
  ps : t.ps = s.ps
  pu : t.pu = s.pu
  record : t.tm.record = s.tm.record
  flags : t.tm.flags = s.tm.flags
  lastStop : t.phc.lastStop = s.phc.lastStop
  phase : t.phc.phase = if d = .up ∧ s.phc.phase = .hold then .contact
    else if d = .up ∧ s.phc.phase = .idle ∧ s.ps.adopted = true then .approach else s.phc.phase
  ci : t.ci = if d = .up ∧ s.phc.phase = .idle ∧ s.ps.adopted = true then setDrive true s.ci else s.ci
  timer : t.phc.phase ≠ s.phc.phase → t.phc.contactTimer = contactTime s
  latch : t.phc.phase ≠ s.phc.phase → t.sp.latch = s.sp.latch ||| 0x08

theorem toldAccepted_spec (d : Direction) (s : State) : ToldAccepted d s (toldAccepted d s) := by
  unfold toldAccepted
  split
  · next h =>
    obtain ⟨rfl, hph⟩ := h
    obtain ⟨hpu, hsp⟩ := enterPhase_unpaced (s := s) (new := .contact) (by rw [hph]; rfl) rfl
    exact { su := by simp, lau := by simp, pt := by simp, ps := by simp, pu := hpu, record := by simp,
            flags := by simp, lastStop := by simp, phase := by simp [hph], ci := by simp [hph],
            timer := fun _ => by simp [contactTimerAt, isWaitingContact, hph], latch := fun _ => by rw [hsp] }
  · next hhold =>
    split
    · next h =>
      obtain ⟨rfl, hph, ha⟩ := h
      obtain ⟨hpu, hsp⟩ := enterPhase_unpaced (s := s) (new := .approach) (by rw [hph]; rfl) rfl
      exact { su := by simp, lau := by simp, pt := by simp, ps := by simp, pu := hpu, record := by simp,
              flags := by simp, lastStop := by simp, phase := by simp [hph, ha], ci := by simp [hph, ha],
              timer := fun _ => by simp [contactTimerAt, isWaitingContact, hph],
              latch := fun _ => by rw [State.withCi_sp, hsp] }
    · next hidle =>
      exact { su := rfl, lau := rfl, pt := rfl, ps := rfl, pu := rfl, record := rfl, flags := rfl, lastStop := rfl,
              phase := by rw [if_neg hhold, if_neg hidle], ci := by rw [if_neg hidle],
              timer := fun h => absurd rfl h, latch := fun h => absurd rfl h }

/-! ### STARTs and KEEPs on the line (R86 to R90) -/

/-- A START or KEEP of a member is taken behind the idle event (R86). -/
theorem exec_opening {n : NodeNum} (h : Hears s p n) (hm : isMember p n = true) (k : Bool) (d : Direction)
    (e q : Byte) (ps : Preset) :
    exec (opening k d n e q ps) s = .next (takeStartOrKeep ⟨n, q⟩ d ps (lineIdle n s)) := by
  have ⟨hp, _⟩ := h
  have hstart := exec_commandOf_motion h e (.start d q ps)
  have hkeep := exec_commandOf_motion h e (.keep d q ps)
  simp only [takeMotion, lineIdle_ps, hp, hm, if_true] at hstart hkeep
  cases k
  · cases d <;> exact hstart
  · cases d <;> exact hkeep

/-- The session that a START or KEEP opens (R87). -/
def opened (k : Token) (d : Direction) (q : Preset) : Session :=
  { state := .pending, token := k, dir := d, preset := q, keep := 0 }

/-- The record of an accepted START or KEEP, before the phase is told (R87). -/
def sessionOpened (k : Token) (d : Direction) (q : Preset) (s : State) : State :=
  s.withSu { s.su with session := some (opened k d q), press := pressOnAccept k s.su.press }

theorem acceptSession_eq (k : Token) (d : Direction) (q : Preset) (s : State) :
    acceptSession k d q s = tellAccepted d (sessionOpened k d q s) := rfl

theorem pressOnAccept_other {k : Token} {r : Press} (h : ∀ t d q, r = .waiting t d q → t ≠ k) :
    pressOnAccept k r = r := by
  cases r with
  | waiting t d q => simp [pressOnAccept, h t d q rfl]
  | none | held | spent => rfl

theorem takeStartOrKeep_opens {k : Token} {d : Direction} {q : Preset} (h : s.su.session = none) :
    takeStartOrKeep k d q s = acceptSession k d q s := by
  simp [takeStartOrKeep, h]

theorem takeStartOrKeep_renews {ss : Session} (q : Preset) (h : s.su.session = some ss) :
    takeStartOrKeep ss.token ss.dir q s = s.withSu { s.su with session := some { ss with keep := 0 } } := by
  simp [takeStartOrKeep, h]

theorem takeStartOrKeep_conflicts {ss : Session} {k : Token} {d : Direction} {q : Preset}
    (h : s.su.session = some ss) (hne : ss.token.originator ≠ k.originator ∨ (ss.token = k ∧ ss.dir ≠ d)) :
    takeStartOrKeep k d q s = endSession .conflict s := by
  rcases hne with hne | ⟨rfl, hd⟩
  · have hk : ss.token ≠ k := fun e => hne (by rw [e])
    simp [takeStartOrKeep, h, hk, hne]
  · simp [takeStartOrKeep, h, hd]

theorem takeStartOrKeep_replaces {ss : Session} {k : Token} {d : Direction} {q : Preset}
    (h : s.su.session = some ss) (ho : ss.token.originator = k.originator) (hk : ss.token ≠ k) :
    takeStartOrKeep k d q s = acceptSession k d q (endSession .released s) := by
  simp [takeStartOrKeep, h, hk, ho]

/-- The press at a halt is told from the token of a WAITING or HELD press alone (R85, R87, R94). -/
theorem pressAtHalt_pressOnAccept (held : Option Direction) (k : Token) (r : Press) :
    pressAtHalt held (pressOnAccept k r) = pressAtHalt held r := by
  cases r with
  | waiting t d q => by_cases h : t = k <;> simp [pressOnAccept, h, pressAtHalt]
  | none | held | spent => rfl

/-- The entered phase with the drive-not-ready latch set, at which DRIVE_FAULT trips (R53). -/
def enteredUnready (new : Phase) (s : State) : State :=
  (enterPhase new s).withCi { s.ci with driveNotReady := true }

/-- A column that finds DRIVE_READY low at its start is halted by DRIVE_FAULT (R53). -/
theorem changePhase_unready {new : Phase} (hnew : isMoving new = true) (hold : isMoving s.phc.phase = false)
    (hretract : new ≠ .retract) (hready : s.ci.levels.driveReady = some false) (hp : s.ps.plan.isSome = true)
    (hr : s.tm.record = none) :
    changePhase new s = trip .driveFault none none (enteredUnready new s) := by
  have hcolumn : columnAt s.phc.phase new (enterPhase new s) = trip .driveFault none none (enteredUnready new s) := by
    simp [columnAt, hretract, hnew, hold, hready, enteredUnready]
  have hne : s.phc.phase ≠ new := fun e => by rw [e, hnew] at hold; cases hold
  have hphase : (trip .driveFault none none (enteredUnready new s)).phc.phase ≠ new := by
    rw [trip_running (by simpa [enteredUnready] using hp) (by simpa [enteredUnready] using hr), localHalt,
      (applyHalt_spec _ _).2.1]
    rintro rfl
    cases hnew
  simp [changePhase, hne, hcolumn, hphase]

@[simp] theorem safeDrive_driveNotReady (s : State) : (safeDrive s).ci.driveNotReady = s.ci.driveNotReady := by
  unfold safeDrive sendWord setDrive
  split <;> rfl

theorem localRecord_enteredUnready {new : Phase} (hold : isPacing s.phc.phase = false) (hnew : isPacing new = false)
    (c : Cause) (n : Option NodeNum) : localRecord c n (enteredUnready new s) = localRecord c n s := by
  have ⟨hpu, _⟩ := enterPhase_unpaced hold hnew
  simp [localRecord, sampleLift, enteredUnready, hpu, ownNode]

/-! ### A halt told from a state that differs in parts that it does not read (R94, R137) -/

/-- The parts of a state from which a halt is told agree. The press may have become the session's (R87): a halt
leaves the same of it. -/
structure HaltsAlike (s u : State) : Prop where
  transfer : u.ci.transfer = s.ci.transfer
  nextWord : u.ci.nextWord = s.ci.nextWord
  height : u.ci.height = s.ci.height
  contactHeight : u.ci.contactHeight = s.ci.contactHeight
  press : pressAtHalt u.ci.held u.su.press = pressAtHalt s.ci.held s.su.press
  sequence : u.su.sequence = s.su.sequence
  epoch : u.tm.epoch = s.tm.epoch
  ps : u.ps = s.ps
  pending : u.pending = s.pending

theorem trip_press {c : Cause} {d : Option TravelSide} {n : Option NodeNum} (hp : s.ps.plan.isSome = true)
    (hr : s.tm.record = none) : (trip c d n s).su.press = pressAtHalt s.ci.held s.su.press := by
  rw [trip_running hp hr, localHalt, applyHalt_su]
  simp [setFlag]

theorem HaltsAlike.trip {u : State} (h : HaltsAlike s u) (c : Cause) (d : Option TravelSide) (n : Option NodeNum)
    (hp : u.ps.plan.isSome = true) (hn : NotHalted u) :
    HaltedWith (localRecord c n u) s (Machine.trip c d n u) := by
  obtain ⟨hrec, hph, htimer, hdrive, hbrake, hdemand, hzero, hsession, -, hseq, hlatch, hheight, hcontact, hepoch,
    hps, hpending⟩ := trip_haltedWith c d n hp hn
  obtain ⟨hnone, hsome⟩ := hzero
  have hpress : PressSpent s (Machine.trip c d n u) :=
    pressSpent_of_pressAtHalt ((trip_press hp hn.1).trans h.press)
  exact ⟨hrec, hph, htimer, hdrive, hbrake, hdemand,
    ⟨fun e => h.nextWord ▸ hnone (h.transfer.trans e), fun w e => hsome w (h.transfer.trans e)⟩, hsession, hpress,
    hseq.trans h.sequence, hlatch, hheight.trans h.height, hcontact.trans h.contactHeight, hepoch.trans h.epoch,
    hps.trans h.ps, hpending.trans h.pending⟩

/-- A halt stays as it is when further causes set their flags (R140). -/
theorem haltedWith_tripAll {r : HaltRecord} {t : State} (h : HaltedWith r s t)
    (cs : List (Cause × Option TravelSide)) : HaltedWith r s (tripAll cs t) := by
  induction cs generalizing t with
  | nil => exact h
  | cons c cs ih =>
    refine ih (t := Machine.trip c.1 c.2 none t) ?_
    have ⟨hrec, _⟩ := h
    rcases trip_cases c.1 c.2 none t with ⟨-, e⟩ | ⟨-, -, e⟩ | ⟨-, hrunning, -⟩
    · rwa [e]
    · rw [e]; exact h
    · simp [isHalted, hrec] at hrunning

theorem tripAll_keeps_hasFlag {c : Cause} (cs : List (Cause × Option TravelSide)) (h : hasFlag s.tm.flags c = true) :
    hasFlag (tripAll cs s).tm.flags c = true := by
  induction cs generalizing s with
  | nil => exact h
  | cons d cs ih => exact ih (trip_keeps_hasFlag d.1 d.2 none h)

theorem haltsAlike_opened {n : NodeNum} (k : Token) (d : Direction) (q : Preset) :
    HaltsAlike s (sessionOpened k d q (lineIdle n s)) where
  transfer := rfl
  nextWord := rfl
  height := rfl
  contactHeight := rfl
  press := pressAtHalt_pressOnAccept ..
  sequence := rfl
  epoch := rfl
  ps := rfl
  pending := rfl

theorem HaltsAlike.enterPhase {u : State} (h : HaltsAlike s u) (new : Phase) :
    HaltsAlike s (Machine.enterPhase new u) where
  transfer := by simpa using h.transfer
  nextWord := by simpa using h.nextWord
  height := by simpa using h.height
  contactHeight := by simpa using h.contactHeight
  press := by simpa using h.press
  sequence := by simpa using h.sequence
  epoch := by simpa using h.epoch
  ps := by simpa using h.ps
  pending := by simpa using h.pending

/-- A halt does not read the latch of the drive. -/
theorem HaltsAlike.enteredUnready {u : State} (h : HaltsAlike s u) (new : Phase) :
    HaltsAlike s (Machine.enteredUnready new u) :=
  have h' := h.enterPhase new
  { transfer := h.transfer, nextWord := h.nextWord, height := h.height, contactHeight := h.contactHeight,
    press := by simpa [Machine.enteredUnready] using h.press, sequence := h'.sequence, epoch := h'.epoch,
    ps := h'.ps, pending := h'.pending }

theorem localRecord_opened (hp : s.ps.plan = some p) (c : Cause) (n : NodeNum) (k : Token) (d : Direction)
    (q : Preset) : localRecord c none (sessionOpened k d q (lineIdle n s)) =
      { cause := c, originator := p.node, remote := false, originatorLift := sampleLift s, ownLift := sampleLift s,
        peer := none, token := some k } := by
  simp only [localRecord, sampleLift, sessionOpened, opened]
  exact congrArg (fun o => HaltRecord.mk c o false (sampleLift s) (sampleLift s) none (some k)) (ownNode_of_plan hp)

/-! ### What a session end leaves, told at once (R73, R74, R93) -/

theorem endSession_su {ss : Session} (h : s.su.session = some ss) (hgo : EndGoesOn s) (c : StopCause) :
    (endSession c s).su = { s.su with session := none, press := pressOnEnd c ss.token s.su.press } := by
  obtain ⟨hsu, -⟩ := tellEnded_keeps (endGoesOn_recordEnded hgo c ss) c ss.state
  rw [endSession_some h, hsu, recordEnded_su]

/-- A CONFLICT composes the END of a WAITING press and no more (R85). -/
theorem endSession_conflict_lau {ss : Session} (h : s.su.session = some ss) (hgo : EndGoesOn s) :
    ∃ t : State, t.lau = s.lau ∧ t.ps = s.ps ∧ t.tm.epoch = s.tm.epoch
      ∧ (endSession .conflict s).lau = (composeEndOf s.su.press t).lau := by
  obtain ⟨-, hlau⟩ := tellEnded_keeps (endGoesOn_recordEnded hgo .conflict ss) .conflict ss.state
  exact ⟨s.withSu { s.su with session := none, press := pressOnEnd .conflict ss.token s.su.press }, rfl, rfl, rfl,
    by rw [endSession_some h, hlau]; rfl⟩

/-- The column after a session end, whatever phase it found (R51, R52, R73, R74). -/
structure EndSummary (c : StopCause) (ss : Session) (s t : State) : Prop where
  phase : t.phc.phase = stoppedPhase s.phc.phase
  lastStop : t.phc.lastStop =
    if isMoving s.phc.phase = true ∨ s.phc.phase = .contact
        ∨ ((s.phc.phase = .idle ∨ s.phc.phase = .hold) ∧ ss.state = .pending) then c
    else s.phc.lastStop
  driveEnable : t.ci.driveEnable = if isMoving s.phc.phase = true then false else s.ci.driveEnable
  brakeRelease : t.ci.brakeRelease = if isMoving s.phc.phase = true then false else s.ci.brakeRelease
  stopped : isMoving s.phc.phase = true → t.pu.demand = 0 ∧ ZeroWordSent s.ci t.ci
  contactHeight : t.ci.contactHeight = s.ci.contactHeight
  record : t.tm.record = s.tm.record
  flags : t.tm.flags = s.tm.flags

theorem stoppedPhase_rest {ph : Phase} (h : isMoving ph = false) :
    stoppedPhase ph = if ph = .contact then .hold else ph := by
  cases ph with
  | approach | lift | lower | retract => cases h
  | unplanned | starting | idle | contact | hold | halted => rfl

theorem endSummary_of_sessionEnded {c : StopCause} {ss : Session} {t : State} (h : SessionEnded c ss s t) :
    EndSummary c ss s t := by
  obtain ⟨hmoving, hrest, -, -⟩ := h
  cases hm : isMoving s.phc.phase with
  | true =>
    obtain ⟨-, hph, hstop, hd, hb, hdemand, hz, hch, -, hrec, hfl, -⟩ := hmoving hm
    exact { phase := hph, lastStop := by rw [if_pos (.inl hm)]; exact hstop, driveEnable := by simpa [hm] using hd,
            brakeRelease := by simpa [hm] using hb, stopped := fun _ => ⟨hdemand, hz⟩, contactHeight := hch,
            record := hrec, flags := hfl }
  | false =>
    obtain ⟨-, hph, hstop, -, -, htm, hci, -⟩ := hrest hm
    exact { phase := hph.trans (stoppedPhase_rest hm).symm, lastStop := by simpa [hm] using hstop,
            driveEnable := by rw [hci]; simp [hm], brakeRelease := by rw [hci]; simp [hm],
            stopped := fun h => absurd (h.symm.trans hm) (by simp), contactHeight := by rw [hci], record := by rw [htm],
            flags := by rw [htm] }

theorem stoppedPhase_ne_started (ph : Phase) : stoppedPhase ph ≠ .approach ∧ stoppedPhase ph ≠ .contact := by
  cases ph <;> simp [stoppedPhase]

theorem setDrive_column (on : Bool) (ci : ColumnInterface) :
    (setDrive on ci).driveEnable = on ∧ (setDrive on ci).brakeRelease = on
      ∧ (setDrive on ci).contactHeight = ci.contactHeight ∧ (setDrive on ci).transfer = ci.transfer
      ∧ (setDrive on ci).nextWord = ci.nextWord := ⟨rfl, rfl, rfl, rfl, rfl⟩

/-- A press that the end leaves WAITING was WAITING before it (R85, R93). -/
theorem waiting_of_pressOnEnd {c : StopCause} {ended k : Token} {d : Direction} {q : Preset} {r : Press}
    (h : pressOnEnd c ended r = .waiting k d q) : r = .waiting k d q := by
  cases r with
  | waiting t =>
    by_cases hc : c = .conflict
    · simp [pressOnEnd, hc] at h
    · simpa [pressOnEnd, hc] using h
  | held t => by_cases ht : t = ended <;> simp [pressOnEnd, ht] at h
  | none | spent => cases h

/-- The node's own START or KEEP, complete on the line, is taken as one of another member (R6, R86). -/
theorem transmissionDone_opening {f : Queued} {d : Direction} {q : Byte} {ps : Preset} (hp : s.ps.plan = some p)
    (hm : isMember p f.frame.sender = true)
    (hb : f.frame.body = .motion (.start d q ps) ∨ f.frame.body = .motion (.keep d q ps)) :
    transmissionDone f s = takeStartOrKeep ⟨f.frame.sender, q⟩ d ps
      (lineIdle f.frame.sender (s.withLau { s.lau with transmitter := none })) := by
  rcases hb with hb | hb <;> simp [transmissionDone, hb, takeMotion, hp, hm]

end Sys2Proof.Machine

open Sys2Proof Sys2Proof.Machine Sys2Proof.Safety

/-- Settles O18: an opening accepted in a phase that stays, one that renews, and the node's own. -/
theorem openingIsTaken : Obligations.OpeningIsTaken := by
  refine ⟨fun s p k d n e q ps hears hm hnone hpress hph => ?_, fun s p k ss n e ps hears hm hss horig => ?_,
    fun s p f d q ps d' ps' hp hm hf hsender hb hnone hpress hph => ?_⟩
  · have ⟨hp, _⟩ := hears
    have hstay : ¬ (d = .up ∧ s.phc.phase = .hold)
        ∧ ¬ (d = .up ∧ s.phc.phase = .idle ∧ s.ps.adopted = true) := by
      rcases hph with (hph | hph) | ⟨rfl, -⟩ <;> simp_all
    rw [exec_opening hears hm, takeStartOrKeep_opens (by exact hnone), acceptSession_eq,
      tellAccepted_stays (s := sessionOpened ⟨n, q⟩ d ps (lineIdle n s)) hstay,
      sessionOpened, lineIdle_of_plan hp, pressOnAccept_other hpress]
    rfl
  · have ⟨hp, _⟩ := hears
    subst horig
    rw [exec_opening hears hm, lineIdle_of_plan hp]
    exact congrArg Host.Outcome.next
      (takeStartOrKeep_renews (s := { s with lau := heardFrom p.node ss.token.originator s.lau }) ps hss)
  · let u : State := lineIdle p.node (s.withLau { s.lau with transmitter := none })
    let v := sessionOpened ⟨p.node, q⟩ d ps u
    have hdone : transmissionDone f s = tellAccepted d v := by
      rw [transmissionDone_opening hp (hsender ▸ hm) hb, hsender, takeStartOrKeep_opens (by exact hnone)]
      rfl
    have hgo : d = .up → s.phc.phase = .idle ∨ s.phc.phase = .hold →
        (s.phc.phase = .idle → s.ps.adopted = true) ∧ s.tm.record = none ∧ NothingTrips s
          ∧ s.ci.levels.limitUp ≠ some true ∧ s.ci.levels.driveReady ≠ some false := by
      rintro rfl hrest
      rcases hph with (hph | hph) | ⟨hd, -⟩ | ⟨-, hph, h⟩
      · rcases hrest with e | e <;> cases hph.symm.trans e
      · rcases hrest with e | e <;> cases hph.symm.trans e
      · cases hd
      · exact ⟨fun e => hph.elim And.right (fun e' => by cases e.symm.trans e'), h⟩
    have heq : tellAccepted d v = toldAccepted d v :=
      tellAccepted_eq (fun hd hrest => have ⟨_, hr, hq, _⟩ := hgo hd hrest; ⟨hr, hq⟩)
        (fun hd hidle => have ⟨_, _, _, hup, hdr⟩ := hgo hd (.inl hidle); ⟨hup, hdr⟩)
    have spec := toldAccepted_spec d v
    refine ⟨_, exec_transmissionComplete hf, ?_⟩
    rw [hdone, heq]
    refine ⟨?_, ?_, ?_, spec.pt, spec.ps, spec.record, spec.flags⟩
    · rw [spec.su]
      simp [v, u, sessionOpened, hpress, pressOnAccept, opened]
    · have hadopted : d = .up → s.phc.phase = .idle → s.ps.adopted = true :=
        fun hd hidle => (hgo hd (.inl hidle)).1 hidle
      rw [spec.phase]
      change (if d = .up ∧ s.phc.phase = .hold then _ else
        if d = .up ∧ s.phc.phase = .idle ∧ s.ps.adopted = true then _ else s.phc.phase) = _
      by_cases hidle : d = .up ∧ s.phc.phase = .idle
      · obtain ⟨hd, hidle⟩ := hidle
        simp [hd, hidle, hadopted hd hidle]
      · rw [if_neg hidle, if_neg (c := d = .up ∧ s.phc.phase = .idle ∧ _) (fun h => hidle ⟨h.1, h.2.1⟩)]
    · rw [spec.lau]
      exact congrArg State.lau (lineIdle_of_plan (s := s.withLau { s.lau with transmitter := none }) hp p.node)

/-- Settles O19: the column starts, or DRIVE_READY low halts it. -/
theorem openingUpStartsColumn : Obligations.OpeningUpStartsColumn := by
  refine ⟨fun s p k n e q ps hears hm hnone hr hq hup hdr hph => ?_,
    fun s p k n e q ps hears hm hnone hr hidle ha hdr => ?_⟩
  · have ⟨hp, _⟩ := hears
    let v := sessionOpened ⟨n, q⟩ .up ps (lineIdle n s)
    have heq : tellAccepted .up v = toldAccepted .up v :=
      tellAccepted_eq (fun _ _ => ⟨hr, hq⟩) (fun _ _ => ⟨hup, hdr⟩)
    have spec := toldAccepted_spec .up v
    have hphase : (toldAccepted .up v).phc.phase = if s.phc.phase = .idle then .approach else .contact := by
      rw [spec.phase]
      change (if _ ∧ s.phc.phase = .hold then _
        else if _ ∧ s.phc.phase = .idle ∧ s.ps.adopted = true then _ else _) = _
      rcases hph with ⟨hph, ha⟩ | hph
      · simp [hph, ha]
      · simp [hph]
    have hci : (toldAccepted .up v).ci = if s.phc.phase = .idle then setDrive true s.ci else s.ci := by
      rw [spec.ci]
      change (if _ ∧ s.phc.phase = .idle ∧ s.ps.adopted = true then _ else _) = _
      rcases hph with ⟨hph, ha⟩ | hph
      · simp [hph, ha, v, sessionOpened]
      · simp [hph, v, sessionOpened]
    have hmoved : (toldAccepted .up v).phc.phase ≠ v.phc.phase := by
      rw [hphase]
      change _ ≠ s.phc.phase
      rcases hph with ⟨hph, -⟩ | hph <;> simp [hph]
    refine ⟨toldAccepted .up v, ?_, ?_, hphase, ?_, ?_, ?_, ?_, ?_, spec.pu, spec.latch hmoved, spec.record.trans hr,
      spec.flags, spec.pt, spec.ps⟩
    · rw [exec_opening hears hm, takeStartOrKeep_opens (by exact hnone), acceptSession_eq, heq]
    · rw [spec.su]; rfl
    · rw [spec.timer hmoved]
      simp [contactTime, v, sessionOpened, hp]
    · rw [hci]; split <;> rfl
    · rw [hci]; split <;> rfl
    · rw [hci]; split <;> rfl
    · rw [hci]; split <;> rfl
  · have ⟨hp, _⟩ := hears
    let v := sessionOpened ⟨n, q⟩ .up ps (lineIdle n s)
    let w := enteredUnready .approach v
    have hpw : w.ps.plan.isSome = true := by simp [w, enteredUnready, v, sessionOpened, hp]
    have hnw : NotHalted w := by simp [NotHalted, w, enteredUnready, v, sessionOpened, hr]
    have htell : tellAccepted .up v = trip .driveFault none none w := by
      have hv : v.phc.phase = .idle := hidle
      have hva : v.ps.adopted = true := ha
      have hunready := changePhase_unready (s := v) (new := .approach) rfl (by rw [hv]; rfl) (by simp) hdr
        (by simp [v, sessionOpened, hp]) hr
      simp [tellAccepted, phaseOnAccept, hv, hva, hunready, w]
    refine ⟨trip .driveFault none none w, ?_, ?_, ?_, trip_hasFlag _ _ _ hpw⟩
    · rw [exec_opening hears hm, takeStartOrKeep_opens (by exact hnone), acceptSession_eq, htell]
    · have hrecord := localRecord_enteredUnready (s := v) (new := .approach)
        (by rw [show v.phc.phase = .idle from hidle]; rfl) rfl .driveFault none
      have hhalt := ((haltsAlike_opened ⟨n, q⟩ .up ps).enteredUnready .approach).trip .driveFault none none hpw hnw
      rwa [hrecord, localRecord_opened hp] at hhalt
    · rw [trip_running hpw hnw.1, localHalt, applyHalt_ci]
      simp [w, enteredUnready]

/-- Settles O20: a conflict ends the session, a newer sequence of the same originator replaces it. -/
theorem otherTokenEndsSession : Obligations.OtherTokenEndsSession := by
  refine ⟨fun s p k d ss n e q ps hears hm hss hother hgo => ?_,
    fun s p k d ss n e q ps hears hm hss horig hseq hgo hquiet hready hwaits => ?_⟩
  · have ⟨hp, _, htransmitter, _⟩ := hears
    have hended := endSession_sessionEnded (s := lineIdle n s) hss hgo .conflict
    obtain ⟨t, htlau, htps, hepoch, hlau⟩ := endSession_conflict_lau (s := lineIdle n s) hss hgo
    have hreceiver : ReceiverKept (lineIdle n s).lau (composeEndOf s.su.press t).lau :=
      htlau ▸ (composeEndOf_joined s.su.press .refl).receiver
    refine ⟨endSession .conflict (lineIdle n s), ?_, hended, ?_, ?_, ?_, ?_, ?_, fun hw => ?_, endSession_pt ..⟩
    · rw [exec_opening hears hm, takeStartOrKeep_conflicts (s := lineIdle n s) hss hother]
    · have hwithdraws := withdrawsStart_composeEndOf (p := p) (s := lineIdle n s) (t := t) (by rw [htps]; exact hp)
        htlau hepoch
      unfold WithdrawsStart at hwithdraws ⊢
      rw [hlau]
      exact hwithdraws
    · rw [hlau, composeEndOf_urgent, htlau]; rfl
    · rw [hlau]; exact hreceiver.last
    · rw [hlau]; exact hreceiver.transmitter.trans htransmitter
    · rw [hlau]; exact hreceiver.lineBusy
    · rw [hlau, composeEndOf_settled (r := (lineIdle n s).su.press) hw, htlau, lineIdle_of_plan hp]
  · have ⟨hp, _⟩ := hears
    let u := lineIdle n s
    let w := endSession .released u
    let v := sessionOpened ⟨n, q⟩ d ps w
    have hended : SessionEnded .released ss u w := endSession_sessionEnded (s := u) hss hgo .released
    have sum := endSummary_of_sessionEnded hended
    have hwsu : w.su = { s.su with session := none, press := pressOnEnd .released ss.token s.su.press } :=
      endSession_su (s := u) hss hgo .released
    have hlevels : v.ci.levels = s.ci.levels := levels_of_measured (endSession_measured ..)
    have hrecord : v.tm.record = s.tm.record := sum.record
    have hvphase : v.phc.phase = stoppedPhase s.phc.phase := sum.phase
    have heq : tellAccepted d v = toldAccepted d v := by
      refine tellAccepted_eq (fun hd hrest => ?_) (fun hd hidle => ?_)
      · rw [hvphase] at hrest
        obtain ⟨hr, hq⟩ := hquiet hd hrest
        exact ⟨hrecord.trans hr, nothingTrips_of_measured (endSession_measured ..) hq⟩
      · rw [hvphase] at hidle
        rw [hlevels]
        exact hready hd hidle
    have spec := toldAccepted_spec d v
    have hadopted : v.ps = s.ps := endSession_ps ..
    have hphase := spec.phase
    rw [hvphase, hadopted] at hphase
    have hci : (toldAccepted d v).ci =
        if (toldAccepted d v).phc.phase = .approach then setDrive true w.ci else w.ci := by
      have ⟨hnot, _⟩ := stoppedPhase_ne_started s.phc.phase
      rw [spec.ci, hvphase, hadopted, hphase]
      by_cases hc : d = .up ∧ stoppedPhase s.phc.phase = .idle ∧ s.ps.adopted = true
      · simp [hc]; rfl
      · rw [if_neg hc, if_neg hc]
        split <;> simp_all <;> rfl
    have hpress : pressOnAccept ⟨n, q⟩ w.su.press = w.su.press := by
      refine pressOnAccept_other fun t d' q' hw => ?_
      rw [hwsu] at hw
      exact hwaits t d' q' (waiting_of_pressOnEnd hw)
    refine ⟨toldAccepted d v, ?_, ?_, ?_, ?_, hphase, spec.lastStop.trans sum.lastStop, fun hph => ?_, ?_, ?_,
      fun hmoving => ⟨?_, ?_⟩, ?_, spec.record.trans hrecord, spec.flags.trans sum.flags, ?_, ?_⟩
    · have hne : ss.token ≠ ⟨n, q⟩ := fun e => hseq (by rw [e])
      rw [exec_opening hears hm, takeStartOrKeep_replaces (s := u) hss horig hne, acceptSession_eq, heq]
    · rw [spec.su]; rfl
    · refine pressAfterEnd_of_pressOnEnd ?_
      rw [spec.su]
      change pressOnAccept ⟨n, q⟩ w.su.press = _
      rw [hpress, hwsu]
    · rw [spec.su]
      change w.su.sequence = _
      rw [hwsu]
    · have ⟨hnot, hnot'⟩ := stoppedPhase_ne_started s.phc.phase
      rw [spec.timer, contactTime, hadopted, hp]
      · rfl
      · rw [hvphase]
        rcases hph with hph | hph <;> rw [hph] <;> exact Ne.symm ‹_›
    · rw [hci]; split
      · rfl
      · exact sum.driveEnable
    · rw [hci]; split
      · rfl
      · exact sum.brakeRelease
    · rw [spec.pu]; exact (sum.stopped hmoving).1
    · rw [hci]; split <;> exact (sum.stopped hmoving).2
    · rw [hci]; split <;> exact sum.contactHeight
    · rw [spec.lau]
      change (endSession .released u).lau = _
      rw [endSession_lau (s := u) hgo (by simp)]
      exact congrArg State.lau (lineIdle_of_plan hp n)
    · rw [spec.pt]; exact endSession_pt ..

end

section
/-! PROOFS. The safety lines, the drive status lines and the load samples: what they change, what trips, contact and
unloading, the end of start-up (R45 to R50, R53, R55, R64, R68, R71, R141, R142). -/

namespace Sys2Proof.Machine

open Sys2Proof Sys2Proof.Safety

variable {s : State} {p : Plan}

/-! ### Trips of a column with new levels or loads -/

theorem haltsAlike_levels (l : FilteredLevels) : HaltsAlike s (s.withCi { s.ci with levels := l }) where
  transfer := rfl
  nextWord := rfl
  height := rfl
  contactHeight := rfl
  press := rfl
  sequence := rfl
  epoch := rfl
  ps := rfl
  pending := rfl

/-- The record of a local trip under a plan, with session and last control sample as they stand (R137). -/
def tripRecord (p : Plan) (s : State) (c : Cause) : HaltRecord :=
  { cause := c, originator := p.node, remote := false, originatorLift := sampleLift s, ownLift := sampleLift s,
    peer := none, token := s.su.session.map (·.token) }

/-- A trip of a node whose halt is told as in `s`, with the session and the sample of `s` (R137 to R139). -/
theorem HaltsAlike.trip_record {u : State} (h : HaltsAlike s u) (hp : s.ps.plan = some p) (hn : NotHalted u)
    (hsession : u.su.session = s.su.session) (hlift : sampleLift u = sampleLift s) (c : Cause)
    (d : Option TravelSide) : HaltedWith (tripRecord p s c) s (Machine.trip c d none u)
      ∧ hasFlag (Machine.trip c d none u).tm.flags c = true := by
  have hpu : u.ps.plan = some p := by rw [h.ps, hp]
  have hsome : u.ps.plan.isSome = true := by rw [hpu]; rfl
  have hrecord : localRecord c none u = tripRecord p s c := by
    rw [localRecord, ownNode_of_plan hpu, hsession, hlift]; rfl
  exact ⟨hrecord ▸ h.trip c d none hsome hn, trip_hasFlag c d none hsome⟩

/-! ### The safety lines (R55, R141) -/

/-- A change of a line that had the other level is judged (R55). -/
theorem exec_switchChange {line : SafetyLine} {level : Bool} (h : safetyLevel s.ci.levels line = some (!level)) :
    exec (.switchChange line level) s = .next (switchMoves line level s) := by
  simp [exec, execSwitchChange, h]

theorem filter_ite_singleton {α : Type} (f : α → Bool) (b : Bool) (x : α) :
    (if b = true then [x] else []).filter f = if (b && f x) = true then [x] else [] := by
  cases b <;> cases h : f x <;> simp [h]

/-- The causes of one line among those of R141's table. -/
theorem raised_eq (line : SafetyLine) (ph : Phase) (l : FilteredLevels) :
    (switchCauses ph l).filter (raisedBy line) = match line with
      | .estop => if (ph != .unplanned && l.estop == some true) = true then [(.estop, none)] else []
      | .nut => if ((isLoaded ph || isMoving ph) && l.nut == some true) = true then [(.nutEngaged, none)] else []
      | .limitUp =>
        if ((ph == .approach || ph == .lift) && l.limitUp == some true) = true then [(.travelLimit, some .upper)]
        else []
      | .limitDown =>
        if ((ph == .lower || ph == .retract) && l.limitDown == some true) = true then [(.travelLimit, some .lower)]
        else [] := by
  unfold switchCauses
  simp only [List.filter_append, filter_ite_singleton]
  cases line <;> simp [raisedBy]

/-- The column with a safety line at a new level (R55). -/
def relevelled (line : SafetyLine) (level : Bool) (s : State) : State :=
  s.withCi { s.ci with levels := withSafetyLevel s.ci.levels line level }

theorem switchMoves_eq (line : SafetyLine) (level : Bool) (s : State) :
    switchMoves line level s = tripAll
      ((switchCauses s.phc.phase (withSafetyLevel s.ci.levels line level)).filter (raisedBy line))
      (relevelled line level s) := rfl

theorem switchMoves_limitUp (s : State) : switchMoves .limitUp true s =
    if s.phc.phase = .approach ∨ s.phc.phase = .lift then
      trip .travelLimit (some .upper) none (relevelled .limitUp true s)
    else relevelled .limitUp true s := by
  rw [switchMoves_eq, raised_eq]
  by_cases h : s.phc.phase = .approach ∨ s.phc.phase = .lift <;> simp [h, withSafetyLevel, tripAll]

theorem switchMoves_limitDown (s : State) : switchMoves .limitDown true s =
    if s.phc.phase = .lower ∨ s.phc.phase = .retract then
      trip .travelLimit (some .lower) none (relevelled .limitDown true s)
    else relevelled .limitDown true s := by
  rw [switchMoves_eq, raised_eq]
  by_cases h : s.phc.phase = .lower ∨ s.phc.phase = .retract <;> simp [h, withSafetyLevel, tripAll]

theorem switchMoves_nut (s : State) : switchMoves .nut true s =
    if isLoaded s.phc.phase = true ∨ isMoving s.phc.phase = true then
      trip .nutEngaged none none (relevelled .nut true s)
    else relevelled .nut true s := by
  rw [switchMoves_eq, raised_eq]
  by_cases h : isLoaded s.phc.phase = true ∨ isMoving s.phc.phase = true <;> simp [h, withSafetyLevel, tripAll]

theorem switchMoves_estop (h : s.phc.phase ≠ .unplanned) :
    switchMoves .estop true s = trip .estop none none (relevelled .estop true s) := by
  rw [switchMoves_eq, raised_eq]
  simp [h, withSafetyLevel, tripAll]

theorem switchCauses_halted_sideless (l : FilteredLevels) : ∀ c ∈ switchCauses .halted l, c.2 = none := by
  intro c hc
  cases he : l.estop == some true <;> cases hd : l.driveFault == some true <;>
    simp_all [switchCauses, isLoaded, isMoving]
  rcases hc with rfl | rfl <;> rfl

theorem foldl_setFlag_travelSide {cs : List (Cause × Option TravelSide)} (h : ∀ c ∈ cs, c.2 = none) (s : State) :
    (cs.foldl (fun t c => setFlag c.1 c.2 t) s).tm.travelSide = s.tm.travelSide := by
  induction cs generalizing s with
  | nil => rfl
  | cons c cs ih =>
    refine (ih (fun d hd => h d (List.mem_cons_of_mem _ hd)) (setFlag c.1 c.2 s)).trans ?_
    simp [setFlag, h c List.mem_cons_self]

theorem haltOrder_travelSide (s : State) : (haltOrder s).tm.travelSide = s.tm.travelSide := by
  unfold haltOrder
  dsimp only
  split
  · simp
  · rw [foldl_setFlag_travelSide (switchCauses_halted_sideless _)]; simp

/-- The side that a TRAVEL_LIMIT has recorded stands through the halt (R138, R141). -/
theorem applyHalt_travelSide (r : HaltRecord) (s : State) : (applyHalt r s).tm.travelSide = s.tm.travelSide := by
  simp [applyHalt, haltOrder_travelSide]

/-- What a TRAVEL_LIMIT leaves of a node that was not halted (R138, R139, R141). -/
theorem travelLimit_halts (hp : s.ps.plan.isSome = true) (h : NotHalted s) (d : TravelSide) :
    (trip .travelLimit (some d) none s).tm.record.map (·.cause) = some .travelLimit
      ∧ (trip .travelLimit (some d) none s).phc.phase = .halted
      ∧ (trip .travelLimit (some d) none s).tm.travelSide = some d
      ∧ hasFlag (trip .travelLimit (some d) none s).tm.flags .travelLimit = true
      ∧ (trip .travelLimit (some d) none s).ci.driveEnable = false
      ∧ (trip .travelLimit (some d) none s).su.session = none := by
  obtain ⟨hrec, hph, -, hdrive, -, -, -, hsession, -⟩ := trip_haltedWith .travelLimit (some d) none hp h
  refine ⟨by rw [hrec]; rfl, hph, ?_, trip_hasFlag _ _ _ hp, hdrive, hsession⟩
  rw [trip_running hp h.1, localHalt, applyHalt_travelSide]
  simp [setFlag]

/-! ### The drive status lines (R53) -/

theorem exec_driveStatusChange {line : DriveLine} {level : Bool} (h : driveLevel s.ci.levels line = some (!level)) :
    exec (.driveStatusChange line level) s = .next (driveStatusMoves line level s) := by
  simp [exec, execDriveStatusChange, h]

/-! ### The entry into CONTACT with NUT made (R62, R141) -/

/-- The first cause of a list halts a node that is not halted; the others only set their flags (R140, R147). -/
theorem tripAll_first {u : State} (h : HaltsAlike s u) (c : Cause) (d : Option TravelSide)
    (cs : List (Cause × Option TravelSide)) (hp : u.ps.plan.isSome = true) (hn : NotHalted u) :
    HaltedWith (localRecord c none u) s (tripAll ((c, d) :: cs) u)
      ∧ hasFlag (tripAll ((c, d) :: cs) u).tm.flags c = true :=
  ⟨haltedWith_tripAll (h.trip c d none hp hn) cs, tripAll_keeps_hasFlag cs (trip_hasFlag c d none hp)⟩

theorem switchCauses_contact_nut {l : FilteredLevels} (hn : l.nut = some true) (he : l.estop ≠ some true)
    (hd : l.driveFault ≠ some true) : switchCauses .contact l = [(.nutEngaged, none)] := by
  simp [switchCauses, isLoaded, hn, he, hd]

end Sys2Proof.Machine

open Sys2Proof Sys2Proof.Machine Sys2Proof.Safety

/-- Settles O41: the travel switches by phase and side, NUT by phase and at an entry, and the drive status lines. -/
theorem switchesAndDriveStatus : Obligations.SwitchesAndDriveStatus := by
  refine ⟨fun s p hp hn hup hdown => ⟨fun hph => ?_, fun hph => ?_, fun h1 h2 => ?_, fun h1 h2 => ?_⟩,
    fun s p hp hn => ⟨fun hnut hph he hd => ?_, fun hnut hl hm => ?_,
      fun k n e q ps hears hm hnone hph hnut he hd => ?_⟩,
    fun s => ⟨fun hr hf => ?_, fun hf hr => ?_, fun p hp hn hf => ?_⟩⟩
  · refine ⟨_, exec_switchChange (line := .limitUp) hup, ?_⟩
    rw [switchMoves_limitUp, if_pos hph]
    exact travelLimit_halts (s := relevelled .limitUp true s) (by simp [relevelled, hp]) hn .upper
  · refine ⟨_, exec_switchChange (line := .limitDown) hdown, ?_⟩
    rw [switchMoves_limitDown, if_pos hph]
    exact travelLimit_halts (s := relevelled .limitDown true s) (by simp [relevelled, hp]) hn .lower
  · rw [exec_switchChange (line := .limitUp) (level := true) hup, switchMoves_limitUp,
      if_neg (not_or.mpr ⟨h1, h2⟩)]
    rfl
  · rw [exec_switchChange (line := .limitDown) (level := true) hdown, switchMoves_limitDown,
      if_neg (not_or.mpr ⟨h1, h2⟩)]
    rfl
  · have ⟨hhalt, hflag⟩ := HaltsAlike.trip_record (u := relevelled .nut true s) (haltsAlike_levels _) hp hn rfl rfl
      .nutEngaged none
    refine ⟨_, exec_switchChange (line := .nut) hnut, ?_⟩
    rw [switchMoves_nut, if_pos hph]
    exact ⟨hhalt, hflag, withdrawsStart_of_same
      (trip_withdrawsStart (s := relevelled .nut true s) hp hn.1 _ _ _) rfl rfl rfl⟩
  · rw [exec_switchChange (line := .nut) (level := true) hnut, switchMoves_nut, if_neg (by simp [hl, hm])]
    rfl
  · let v := sessionOpened ⟨n, q⟩ .up ps (lineIdle n s)
    have hv : v.phc.phase = .hold := hph
    have hstill : columnAt .hold .contact (enterPhase .contact v) = enterPhase .contact v :=
      columnAt_still _ _ _ rfl rfl
    have hcauses : switchCauses .contact v.ci.levels = [(.nutEngaged, none)] :=
      switchCauses_contact_nut hnut he hd
    have htell : tellAccepted .up v = tripAll ((.nutEngaged, none) :: loadCauses (enterPhase .contact v))
        (enterPhase .contact v) := by
      simp [tellAccepted, phaseOnAccept, hv, changePhase, hstill, hcauses]
    have hrecord : localRecord .nutEngaged none (enterPhase .contact v) = localRecord .nutEngaged none v := by
      have ⟨hpu, _⟩ := enterPhase_unpaced (s := v) (new := .contact) (by rw [hv]; rfl) rfl
      simp [localRecord, sampleLift, hpu, ownNode]
    have hhalt := tripAll_first ((haltsAlike_opened (s := s) (n := n) ⟨n, q⟩ .up ps).enterPhase .contact) .nutEngaged
      none (loadCauses (enterPhase .contact v)) (by simp [sessionOpened, hp])
      ⟨by simpa [sessionOpened] using hn.1, by simp⟩
    rw [hrecord, localRecord_opened hp] at hhalt
    refine ⟨_, ?_, hhalt⟩
    rw [exec_opening hears hm, takeStartOrKeep_opens (by exact hnone), acceptSession_eq, htell]
  · rw [exec_driveStatusChange (line := .ready) (level := true) hr]
    simp [driveStatusMoves, withDriveLevel, hf]
    rfl
  · rw [exec_driveStatusChange (line := .fault) (level := false) hf]
    simp [driveStatusMoves, withDriveLevel, hr]
    rfl
  · let u := s.withCi { s.ci with levels := withDriveLevel s.ci.levels .fault true }
    have hpu : u.ps.plan.isSome = true := by simp [u, hp]
    have hmoves : driveStatusMoves .fault true s = trip .driveFault none none u := by
      simp [driveStatusMoves, withDriveLevel, u]
    have ⟨hhalt, hflag⟩ := HaltsAlike.trip_record (u := u) (haltsAlike_levels _) hp hn rfl rfl .driveFault none
    refine ⟨_, exec_driveStatusChange (line := .fault) hf, ?_⟩
    rw [hmoves]
    refine ⟨hhalt, hflag, ?_⟩
    rw [trip_running hpu hn.1, localHalt, applyHalt_ci]
    simp [u, setFlag]

end

section
/-! PROOFS. Load samples: the counts, the load checks, contact, unloading, and the end of start-up (R45 to R50, R64,
R68, R71, R142). -/

namespace Sys2Proof.Machine

open Sys2Proof Sys2Proof.Safety

variable {s : State} {p : Plan} {w : Word}

/-! ### What an arrival counts (R45, R46) -/

/-- The node when a load has arrived, before anything follows from it. -/
def loadTaken (p : Plan) (w : Word) (s : State) : State := s.withCi (takeLoad p w s.ci)

theorem nextRun_met {run k : Nat} (hk : k ≤ run + 1) (hlt : k ≤ 255) : k ≤ nextRun run true := by
  simp [nextRun]; omega

@[simp] theorem nextRun_missed (run : Nat) : nextRun run false = 0 := rfl

theorem columnLoaded_loadTaken (hw : p.contactLevel ≤ w.toNat) (hrun : 2 ≤ s.ci.contactRun) :
    columnLoaded (loadTaken p w s).ci = true := by
  have h3 := nextRun_met (run := s.ci.contactRun) (k := 3) (by omega) (by omega)
  simpa [columnLoaded, loadTaken, takeLoad, countRuns, hw] using h3

theorem columnLoaded_loadTaken_below (hw : w.toNat < p.contactLevel) : columnLoaded (loadTaken p w s).ci = false := by
  have hnot : ¬ p.contactLevel ≤ w.toNat := by omega
  simp [columnLoaded, loadTaken, takeLoad, countRuns, hnot]

theorem overloadRun_loadTaken_within (hw : w.toNat ≤ p.padRating) : (loadTaken p w s).ci.overloadRun = 0 := by
  have hnot : ¬ p.padRating < w.toNat := by omega
  simp [loadTaken, takeLoad, countRuns, hnot]

theorem overloadRun_loadTaken_over (hw : p.padRating < w.toNat) (hrun : 1 ≤ s.ci.overloadRun) :
    2 ≤ (loadTaken p w s).ci.overloadRun := by
  have h2 := nextRun_met (run := s.ci.overloadRun) (k := 2) (by omega) (by omega)
  simpa [loadTaken, takeLoad, countRuns, hw] using h2

theorem lossRun_loadTaken_held (hw : p.contactLevel ≤ w.toNat) : (loadTaken p w s).ci.lossRun = 0 := by
  have hnot : ¬ w.toNat < p.contactLevel / 2 := by omega
  simp [loadTaken, takeLoad, countRuns, hnot]

theorem lossRun_loadTaken_lost (hw : w.toNat < p.contactLevel / 2) (hrun : 2 ≤ s.ci.lossRun) :
    3 ≤ (loadTaken p w s).ci.lossRun := by
  have h3 := nextRun_met (run := s.ci.lossRun) (k := 3) (by omega) (by omega)
  simpa [loadTaken, takeLoad, countRuns, hw] using h3

theorem unloadRun_loadTaken_below (hw : w.toNat < p.contactLevel) (hrun : 2 ≤ s.ci.unloadRun) :
    3 ≤ (loadTaken p w s).ci.unloadRun := by
  have h3 := nextRun_met (run := s.ci.unloadRun) (k := 3) (by omega) (by omega)
  simpa [loadTaken, takeLoad, countRuns, hw] using h3

theorem unloadRun_loadTaken_held (hw : p.contactLevel ≤ w.toNat) : (loadTaken p w s).ci.unloadRun = 0 := by
  have hnot : ¬ w.toNat < p.contactLevel := by omega
  simp [loadTaken, takeLoad, countRuns, hnot]

theorem haltsAlike_loadTaken : HaltsAlike s (loadTaken p w s) where
  transfer := rfl
  nextWord := rfl
  height := rfl
  contactHeight := rfl
  press := rfl
  sequence := rfl
  epoch := rfl
  ps := rfl
  pending := rfl

/-- After start-up's third sample an arrival counts no further one (R47). -/
theorem exec_loadSample (hp : s.ps.plan = some p) (hstart : s.ci.startSamples = 3) (w : Word) :
    exec (.loadSample 16 w) s = .next (tripAll (loadCauses (unloaded p (contactMade (loadTaken p w s))))
      (unloaded p (contactMade (loadTaken p w s)))) := by
  have hcount : countStartSample (loadTaken p w s) = loadTaken p w s := by
    have h3 : (loadTaken p w s).ci.startSamples = 3 := hstart
    simp [countStartSample, h3]
  simp only [exec, execLoadSample, hp, if_true, loadArrives]
  rw [show s.withCi (takeLoad p w s.ci) = loadTaken p w s from rfl, hcount]

theorem contactMade_stays (h : s.phc.phase ≠ .approach) : contactMade s = s := by simp [contactMade, h]

theorem unloaded_stays (h : s.phc.phase ≠ .lower) : unloaded p s = s := by simp [unloaded, h]

/-- Outside APPROACH and LOWER an arrival only counts and meets the load checks (R46, R142). -/
theorem exec_loadSample_counted (hp : s.ps.plan = some p) (hstart : s.ci.startSamples = 3) (w : Word)
    (ha : s.phc.phase ≠ .approach) (hl : s.phc.phase ≠ .lower) :
    exec (.loadSample 16 w) s = .next (tripAll (loadCauses (loadTaken p w s)) (loadTaken p w s)) := by
  rw [exec_loadSample hp hstart, contactMade_stays (s := loadTaken p w s) ha, unloaded_stays (s := loadTaken p w s) hl]

/-! ### The load checks (R142) -/

theorem loadCauses_unchecked (hl : isLoaded s.phc.phase = false) (ha : s.phc.phase ≠ .approach) :
    loadCauses s = [] := by
  have hover : overloadHolds s.phc.phase s.ci = false := by simp [overloadHolds, hl, ha]
  have hlost : ∀ p, loadLostHolds p s = false := by
    intro p
    cases hph : s.phc.phase <;> simp_all [loadLostHolds, isLoaded]
  cases hp : s.ps.plan <;> simp [loadCauses, hp, hover, hlost]

theorem loadCauses_lost (hp : s.ps.plan = some p) (hover : s.ci.overloadRun = 0) (hloss : 3 ≤ s.ci.lossRun)
    (hph : s.phc.phase = .contact ∨ s.phc.phase = .lift ∨ s.phc.phase = .hold
      ∨ (s.phc.phase = .lower ∧ aboveUnloadZone p s = true)) : loadCauses s = [(.loadLost, none)] := by
  have hlost : loadLostHolds p s = true := by
    rcases hph with h | h | h | ⟨h, hz⟩ <;> simp [loadLostHolds, *]
  simp [loadCauses, hp, overloadHolds, hover, hlost]

theorem loadCauses_over (hp : s.ps.plan = some p) (hover : 2 ≤ s.ci.overloadRun) (hloss : s.ci.lossRun = 0)
    (hph : isLoaded s.phc.phase = true ∨ s.phc.phase = .approach) : loadCauses s = [(.overload, none)] := by
  have hlost : loadLostHolds p s = false := by simp [loadLostHolds, hloss]
  have hholds : overloadHolds s.phc.phase s.ci = true := by
    rcases hph with h | h
    · simp [overloadHolds, h, hover]
    · simp [overloadHolds, h, hover]
  simp [loadCauses, hp, hholds, hlost]

/-! ### Contact and unloading (R48, R68, R71) -/

/-- The column with h_c taken from h (R48). -/
def contactTaken (s : State) : State := s.withCi { s.ci with contactHeight := s.ci.height }

/-- The column in CONTACT, its drive safe (R48, R51, R68). -/
def contactEntered (s : State) : State := safeDrive (enterPhase .contact (contactTaken s))

/-- Contact made, with the load causes that the entry finds (R62, R68). -/
theorem contactMade_enters (hph : s.phc.phase = .approach) (hloaded : columnLoaded s.ci = true)
    (he : s.ci.levels.estop ≠ some true) (hd : s.ci.levels.driveFault ≠ some true)
    (hn : s.ci.levels.nut ≠ some true) :
    contactMade s = tripAll (loadCauses (contactEntered s)) (contactEntered s) := by
  have hcolumn : columnAt .approach .contact (enterPhase .contact (contactTaken s)) = contactEntered s :=
    columnAt_stops _ rfl rfl
  have hlevels : (contactEntered s).ci.levels = s.ci.levels :=
    (levels_of_measured (safeDrive_measured _)).trans (by simp [contactTaken])
  have hswitch : switchCauses .contact (contactEntered s).ci.levels = [] := by
    rw [hlevels]
    simp [switchCauses, he, hd, hn]
  have hphase : (contactTaken s).phc.phase = .approach := hph
  have hentered : (contactEntered s).phc.phase = .contact := by simp [contactEntered]
  have hchange : changePhase .contact (contactTaken s) =
      tripAll (loadCauses (contactEntered s)) (contactEntered s) := by
    simp only [changePhase, hphase, hcolumn, hentered, hswitch, List.nil_append]
    simp
  simp only [contactMade, hph, hloaded, and_self, if_true]
  exact hchange

theorem unloaded_held (h : s.ci.unloadRun = 0) : unloaded p s = s := by simp [unloaded, h]

theorem unloaded_above (h : aboveUnloadZone p s = true) : unloaded p s = s := by simp [unloaded, h]

/-- The column in RETRACT with h_c invalid (R49, R71). -/
def retractEntered (s : State) : State := (enterPhase .retract s).withCi { s.ci with contactHeight := none }

/-- Unloading below the zone takes LOWER into RETRACT (R62, R71). -/
theorem unloaded_retracts (hph : s.phc.phase = .lower) (hrun : 3 ≤ s.ci.unloadRun)
    (hzone : aboveUnloadZone p s = false) (he : s.ci.levels.estop ≠ some true)
    (hd : s.ci.levels.driveFault ≠ some true) (hn : s.ci.levels.nut ≠ some true)
    (hl : s.ci.levels.limitDown ≠ some true) : unloaded p s = retractEntered s := by
  have hcolumn : columnAt s.phc.phase .retract (enterPhase .retract s) = retractEntered s := by
    simp [columnAt, hph, isMoving, retractEntered]
  have hswitch : switchCauses .retract (retractEntered s).ci.levels = [] := by
    simp [switchCauses, retractEntered, he, hd, hn, hl]
  have hload : loadCauses (retractEntered s) = [] :=
    loadCauses_unchecked (by simp [retractEntered, isLoaded]) (by simp [retractEntered])
  have hchange : changePhase .retract s = retractEntered s := by
    rw [changePhase_passes (by rw [hph]; decide), hcolumn] <;> rw [hcolumn]
    · exact hswitch
    · exact hload
  simp only [unloaded, hph, hrun, hzone, and_self, if_true, hchange]

theorem aboveUnloadZone_eq {c : ControlSample} (hc : s.pu.sample = some c) (hh : s.ci.contactHeight.isSome = true) :
    aboveUnloadZone p s = decide (p.unloadZone.toInt < c.lift.toInt) := by
  simp [aboveUnloadZone, nodeLift, hh, sampleLift, hc]

/-! ### The end of start-up (R64) -/

/-- The start-up record done with a verdict (R64). -/
def startupDone (loaded : Bool) (s : State) : State :=
  s.withPhc { s.phc with startup := { validRead := true, verdict := some loaded, done := true } }

/-- The verdict as the second event (R64). -/
theorem noteVerdict_decides (loaded : Bool) (hdone : s.phc.startup.done = false)
    (hread : s.phc.startup.validRead = true) :
    noteVerdict loaded s = if loaded = true then trip .noReference none none (startupDone loaded s)
      else if s.phc.phase = .starting then applyPending (changePhase .idle (startupDone loaded s))
      else startupDone loaded s := by
  cases loaded <;> simp [noteVerdict, decideStartup, hdone, hread, startupDone] <;> rfl

@[simp] theorem haltOrder_startup (s : State) : (haltOrder s).phc.startup = s.phc.startup := by
  unfold haltOrder
  dsimp only
  split <;> simp

theorem trip_startup (c : Cause) (d : Option TravelSide) (n : Option NodeNum) (s : State) :
    (trip c d n s).phc.startup = s.phc.startup := by
  rcases trip_cases c d n s with ⟨-, e⟩ | ⟨-, -, e⟩ | ⟨-, -, e⟩ <;> rw [e]
  · simp [setFlag]
  · rw [localHalt]; simp [applyHalt, setFlag]

theorem haltsAlike_refl (s : State) : HaltsAlike s s := ⟨rfl, rfl, rfl, rfl, rfl, rfl, rfl, rfl, rfl⟩

/-- The third arrival counted, before its verdict (R47). -/
def thirdSample (p : Plan) (w : Word) (s : State) : State :=
  (loadTaken p w s).withCi { (loadTaken p w s).ci with startSamples := 3 }

/-- The third arrival after adoption notes the verdict (R47). -/
theorem exec_loadSample_third (hp : s.ps.plan = some p) (hstart : s.ci.startSamples = 2) {t : State}
    (hverdict : noteVerdict (columnLoaded (loadTaken p w s).ci) (thirdSample p w s) = t)
    (ha : t.phc.phase ≠ .approach) (hl : isLoaded t.phc.phase = false) :
    exec (.loadSample 16 w) s = .next t := by
  have hcount : countStartSample (loadTaken p w s) = t := by
    have h2 : (loadTaken p w s).ci.startSamples = 2 := hstart
    have hcolumn : columnLoaded (thirdSample p w s).ci = columnLoaded (loadTaken p w s).ci := rfl
    simp only [countStartSample, h2]
    exact hverdict
  have hlower : t.phc.phase ≠ .lower := fun e => by rw [e] at hl; cases hl
  simp only [exec, execLoadSample, hp, if_true, loadArrives]
  rw [show s.withCi (takeLoad p w s.ci) = loadTaken p w s from rfl, hcount, contactMade_stays ha,
    unloaded_stays hlower, loadCauses_unchecked hl ha]
  rfl

end Sys2Proof.Machine

open Sys2Proof Sys2Proof.Machine Sys2Proof.Safety

/-- Settles O36: the counts, and the two load checks outside the unloading. -/
theorem loadSampleCounts : Obligations.LoadSampleCounts := by
  refine ⟨fun s w => ⟨fun p hp hstart hph => ?_, fun hp => ?_, fun n hn => ?_⟩,
    fun s p w hp hstart hr hw hrun hpad hph he hd => ?_,
    fun s p w hp hstart hr hpad hw hrun hph he hd hn => ?_⟩
  · have hunchecked : isLoaded s.phc.phase = false ∧ s.phc.phase ≠ .approach ∧ s.phc.phase ≠ .lower := by
      rcases hph with h | h | h | h <;> simp [h, isLoaded]
    obtain ⟨hl, ha, hlower⟩ := hunchecked
    rw [exec_loadSample_counted hp hstart w ha hlower, loadCauses_unchecked (s := loadTaken p w s) hl ha]
    simp [tripAll, loadTaken, takeLoad, countRuns, nextRun, loadSilenceTime]
    rfl
  · simp only [exec, execLoadSample, hp, if_true]
    rfl
  · simp [exec, execLoadSample, hn]
  · have hphases : s.phc.phase ≠ .approach ∧ s.phc.phase ≠ .lower ∧ s.phc.phase ≠ .halted := by
      rcases hph with h | h | h <;> simp [h]
    obtain ⟨ha, hl, hh⟩ := hphases
    have hcauses : loadCauses (loadTaken p w s) = [(.loadLost, none)] :=
      loadCauses_lost hp (overloadRun_loadTaken_within hpad) (lossRun_loadTaken_lost hw hrun)
        (hph.imp_right (Or.imp_right .inl))
    refine ⟨_, exec_loadSample_counted hp hstart w ha hl, ?_⟩
    rw [hcauses]
    exact haltsAlike_loadTaken.trip_record hp ⟨hr, hh⟩ rfl rfl .loadLost none
  · suffices h : ∃ b t, exec (.loadSample 16 w) s = .next t ∧ HaltedWith (tripRecord p s .overload) b t
        ∧ hasFlag t.tm.flags .overload = true by
      obtain ⟨b, t, ht, ⟨hrec, hhalted, -, hdrive, hbrake, hdemand, -, hsession, -⟩, hflag⟩ := h
      exact ⟨t, ht, hrec, hflag, hhalted, hsession, hdrive, hbrake, hdemand⟩
    let u := loadTaken p w s
    have hover : 2 ≤ u.ci.overloadRun := overloadRun_loadTaken_over hpad hrun
    have hloss : u.ci.lossRun = 0 := lossRun_loadTaken_held hw
    have hrunning : s.phc.phase ≠ .halted := by rcases hph with h | h | h | h | h <;> simp [h]
    have hchecked : isLoaded s.phc.phase = true ∨ s.phc.phase = .approach := by
      rcases hph with h | h | h | h | h <;> simp [h, isLoaded]
    by_cases hcontact : s.phc.phase = .approach ∧ columnLoaded u.ci = true
    · obtain ⟨ha, hloaded⟩ := hcontact
      let v := contactEntered u
      have hmeasured : measured v.ci = measured u.ci := (safeDrive_measured _).trans (by simp [contactTaken])
      have hcolumn := eq_of_measured hmeasured
      have hcauses : loadCauses v = [(.overload, none)] := by
        refine loadCauses_over (p := p) ?_ ?_ ?_ (.inl ?_)
        · simpa [v, contactEntered, contactTaken, u, loadTaken] using hp
        · rw [hcolumn]; exact hover
        · rw [hcolumn]; exact hloss
        · simp [v, contactEntered, isLoaded]
      have hmade : contactMade u = trip .overload none none v := by
        rw [contactMade_enters (s := u) ha hloaded he hd hn, hcauses]; rfl
      have hlift : sampleLift v = sampleLift s := by
        have ⟨hpu, _⟩ := enterPhase_unpaced (s := contactTaken u) (new := .contact)
          (by rw [show (contactTaken u).phc.phase = .approach from ha]; rfl) rfl
        simp [sampleLift, v, contactEntered, safeDrive, hpu]
        rfl
      have hpv : v.ps.plan = some p := by simpa [v, contactEntered, contactTaken, u, loadTaken] using hp
      have hnv : NotHalted v := ⟨by simpa [v, contactEntered, contactTaken, u, loadTaken] using hr,
        by simp [v, contactEntered]⟩
      have ⟨hhalt, hflag⟩ := (haltsAlike_refl v).trip_record hpv hnv rfl rfl .overload none
      have ⟨_, hhalted, _⟩ := hhalt
      have hrecord : tripRecord p v .overload = tripRecord p s .overload := by
        rw [tripRecord, hlift, show v.su = s.su by simp [v, contactEntered, contactTaken]; rfl]; rfl
      refine ⟨v, _, ?_, hrecord ▸ hhalt, hflag⟩
      rw [exec_loadSample hp hstart, hmade, unloaded_stays (by rw [hhalted]; decide),
        loadCauses_unchecked (by rw [hhalted]; rfl) (by rw [hhalted]; decide)]
      rfl
    · have hmade : contactMade u = u := by
        simp only [contactMade, show u.phc.phase = s.phc.phase from rfl, if_neg hcontact]
      have ⟨hhalt, hflag⟩ := haltsAlike_loadTaken.trip_record hp (u := u) ⟨hr, hrunning⟩ rfl rfl .overload none
      refine ⟨s, _, ?_, hhalt, hflag⟩
      rw [exec_loadSample hp hstart, hmade, unloaded_held (unloadRun_loadTaken_held hw),
        loadCauses_over (s := u) hp hover hloss hchecked]
      rfl

/-- Settles O37: the entry into CONTACT that nothing trips. -/
theorem contactIsMade : Obligations.ContactIsMade := by
  intro s p w hp hph hstart hw hpad hrun hq
  let u := loadTaken p w s
  have ⟨he, hd, hn, _, _⟩ := hq
  have hqu : NothingTrips u := ⟨he, hd, hn, by rw [overloadRun_loadTaken_within hpad]; omega,
    by rw [lossRun_loadTaken_held hw]; omega⟩
  have hqv : NothingTrips (contactEntered u) :=
    nothingTrips_of_measured (s := u) ((safeDrive_measured _).trans (by simp [contactTaken])) hqu
  have hmade : contactMade u = contactEntered u := by
    rw [contactMade_enters (s := u) hph (columnLoaded_loadTaken hw hrun) he hd hn, loadCauses_eq_nil hqv]; rfl
  have hexec : exec (.loadSample 16 w) s = .next (contactEntered u) := by
    rw [exec_loadSample hp hstart, hmade, unloaded_stays (by simp [contactEntered]), loadCauses_eq_nil hqv]; rfl
  have hzero := safeDrive_zeroWordSent (enterPhase .contact (contactTaken u))
  rw [enterPhase_ci] at hzero
  have hphase : (contactTaken u).phc.phase = .approach := hph
  refine ⟨_, hexec, by simp [contactEntered], ?_, ?_, ?_, ?_, ?_, hzero, ?_, ?_, ?_, ?_, ?_, ?_⟩
  · simp [contactEntered, contactTaken, u, loadTaken, takeLoad, countRuns]
  · simp [contactEntered, contactTaken, u, loadTaken, takeLoad, countRuns]
  · simp [contactEntered]
  · simp [contactEntered]
  · simp [contactEntered]
  · simp [contactEntered, contactTimerAt, hphase, isWaitingContact]
    rfl
  · simp [contactEntered, isResting]
    rfl
  · simp [contactEntered, contactTaken, u, loadTaken]
  · simp [contactEntered, contactTaken, u, loadTaken]
  · simp [contactEntered, contactTaken, u, loadTaken]
  · simp [contactEntered, contactTaken, u, loadTaken]

/-- Settles O38: RETRACT below the unload zone, LOAD_LOST above it. -/
theorem unloadingInLower : Obligations.UnloadingInLower := by
  intro s p w c hp hph hstart hc hh hw hpad hrun hq hl hr
  let u := loadTaken p w s
  have ⟨he, hd, hn, _, _⟩ := hq
  have hmade : contactMade u = u := contactMade_stays (by rw [show u.phc.phase = .lower from hph]; decide)
  have hzone : aboveUnloadZone p u = decide (p.unloadZone.toInt < c.lift.toInt) := aboveUnloadZone_eq hc hh
  refine ⟨fun hbelow => ?_, fun habove hloss hlost => ?_⟩
  · have hretracts : unloaded p u = retractEntered u :=
      unloaded_retracts hph (unloadRun_loadTaken_below hw hrun) (by rw [hzone]; simpa using hbelow) he hd hn hl
    have hexec : exec (.loadSample 16 w) s = .next (retractEntered u) := by
      rw [exec_loadSample hp hstart, hmade, hretracts,
        loadCauses_unchecked (by simp [retractEntered, isLoaded]) (by simp [retractEntered])]
      rfl
    have hpacing : isPacing u.phc.phase = true := by rw [show u.phc.phase = .lower from hph]; rfl
    refine ⟨_, hexec, by simp [retractEntered], rfl, rfl, rfl, ?_, by simp [retractEntered, u, loadTaken],
      by simpa [retractEntered, u, loadTaken] using hr⟩
    rw [retractEntered, State.withCi_pu, enterPhase_pu]
    have hretract : isPacing .retract = false := rfl
    simp [paceAt, hpacing, hretract]
  · have hcauses : loadCauses u = [(.loadLost, none)] :=
      loadCauses_lost hp (overloadRun_loadTaken_within hpad) (lossRun_loadTaken_lost hlost hloss)
        (.inr (.inr (.inr ⟨hph, by rw [hzone]; simpa using habove⟩)))
    have hexec : exec (.loadSample 16 w) s = .next (trip .loadLost none none u) := by
      rw [exec_loadSample hp hstart, hmade, unloaded_above (by rw [hzone]; simpa using habove), hcauses]; rfl
    have hhalt := haltsAlike_loadTaken.trip_record hp (u := u)
      ⟨hr, by rw [show u.phc.phase = .lower from hph]; decide⟩ rfl rfl .loadLost none
    have hlift : sampleLift s = c.lift := by simp [sampleLift, hc]
    rw [tripRecord, hlift] at hhalt
    exact ⟨_, hexec, hhalt⟩

/-- Settles O39: the verdict of the third sample, as start-up's second event. -/
theorem startupEnds : Obligations.StartupEnds := by
  intro s p w hp hph hr hstart hread hdone hsession hq
  let u := thirdSample p w s
  have ⟨he, hd, hn, _, _⟩ := hq
  refine ⟨fun hw => ?_, fun hw hrun => ?_⟩
  · let v := startupDone false u
    have hv : v.phc.phase = .starting := hph
    have hcolumn : columnAt v.phc.phase .idle (enterPhase .idle v) = enterPhase .idle v :=
      columnAt_still _ _ _ rfl (by rw [hv]; rfl)
    have hchange : changePhase .idle v = enterPhase .idle v := by
      rw [changePhase_passes (by rw [hv]; decide), hcolumn] <;> rw [hcolumn]
      · rw [enterPhase_ci]
        change switchCauses .idle s.ci.levels = []
        simp [switchCauses, he, hd, isLoaded, isMoving]
      · exact loadCauses_unchecked (by simp [isLoaded]) (by simp)
    have hverdict : noteVerdict (columnLoaded (loadTaken p w s).ci) u = enterPhase .idle v := by
      rw [columnLoaded_loadTaken_below hw, noteVerdict_decides (s := u) false hdone hread]
      have hu : u.phc.phase = .starting := hph
      simp only [hu, if_true, Bool.false_eq_true, if_false]
      rw [hchange, applyPending_none (by simpa [v, startupDone, u, thirdSample, loadTaken] using hsession)]
    refine ⟨_, exec_loadSample_third hp hstart hverdict (by simp) (by simp [isLoaded]), by simp,
      by simp [v, startupDone],
      by simpa [v, startupDone, u, thirdSample, loadTaken] using hr, by simp [v, startupDone, u, thirdSample]⟩
  · let v := startupDone true u
    have hverdict : noteVerdict (columnLoaded (loadTaken p w s).ci) u = trip .noReference none none v := by
      rw [columnLoaded_loadTaken hw hrun, noteVerdict_decides (s := u) true hdone hread, if_pos rfl]
    have halike : HaltsAlike s v := ⟨rfl, rfl, rfl, rfl, rfl, rfl, rfl, rfl, rfl⟩
    have ⟨hhalt, hflag⟩ := halike.trip_record hp ⟨hr, by rw [show v.phc.phase = .starting from hph]; decide⟩ rfl
      rfl .noReference none
    have ⟨_, hhalted, _⟩ := hhalt
    rw [tripRecord, hsession] at hhalt
    refine ⟨_, exec_loadSample_third hp hstart hverdict (by rw [hhalted]; decide) (by rw [hhalted]; rfl),
      ?_, hhalt, hflag⟩
    rw [trip_startup]
    rfl

end

section
/-! PROOFS. The step selector: fallback, window and window end, and the proposal of the threshold table (R119, R121 to
R126). -/

namespace Sys2Proof.Machine

open Sys2Proof Sys2Proof.Safety

variable {p : Plan} {spread load mean : Nat} {locked : Bool} {pu : PaceUnit} {own : Step}

/-! ### The threshold table (R119, R123) -/

theorem thresholds_antitone (h : PlanInRange p) : Antitone (fun k : Step => p.thresholds[k]) := by
  obtain ⟨-, -, -, -, -, -, -, -, hstep, -⟩ := h
  exact Fin.antitone_iff_succ_le.mpr hstep

/-- The element that a search down a falling list finds holds, and none above it does. -/
theorem find?_falling {l : List Step} (hl : l.Pairwise (· > ·)) {f : Step → Bool} {k : Step}
    (h : l.find? f = some k) :
    f k = true ∧ ∀ j ∈ l, k < j → f j = false := by
  obtain ⟨hk, as, bs, rfl, has⟩ := List.find?_eq_some_iff_append.mp h
  refine ⟨hk, fun j hj hlt => ?_⟩
  obtain ⟨-, htail, -⟩ := List.pairwise_append.mp hl
  rcases List.mem_append.mp hj with hj | hj
  · simpa using has j hj
  · rcases List.mem_cons.mp hj with rfl | hj
    · exact absurd hlt (lt_irrefl _)
    · exact absurd (List.rel_of_pairwise_cons htail hj) (not_lt.mpr hlt.le)

/-- The proposal meets the mean, and no step above it does (R123). -/
theorem proposal_spec (h : PlanInRange p) (hmean : mean ≤ 65535) :
    mean ≤ p.thresholds[proposal p mean] ∧ ∀ k : Step, proposal p mean < k → p.thresholds[k] < mean := by
  have ⟨_, _, _, _, _, _, _, hfirst, _⟩ := h
  have hpairs : (List.finRange 8).reverse.Pairwise (· > ·) := by decide
  cases hfind : (List.finRange 8).reverse.find? (fun k => decide (mean ≤ thresholdOf p k)) with
  | none =>
    have hzero := List.find?_eq_none.mp hfind 0 (by decide)
    have : thresholdOf p 0 = 65535 := hfirst
    simp [this, hmean] at hzero
  | some k =>
    have hk : proposal p mean = k := by simp [proposal, hfind]
    obtain ⟨hmeets, habove⟩ := find?_falling hpairs hfind
    subst hk
    exact ⟨of_decide_eq_true hmeets, fun j hj => not_le.mp (of_decide_eq_false (habove j (by simp) hj))⟩

/-! ### What a window end decides (R124 to R126) -/

theorem ceilingStep_val (h : PlanInRange p) : (ceilingStep p).val = p.sMax - 1 := by
  obtain ⟨-, -, -, -, -, -, -, -, -, ⟨-, hmax⟩, -⟩ := h
  simp only [ceilingStep]
  omega

theorem ceiled_val (h : PlanInRange p) :
    (windowEnd p mean load locked own).2.ceiled.val = min (proposal p mean).val (p.sMax - 1) := by
  rw [← ceilingStep_val h]
  simp only [windowEnd]
  exact Fin.coe_min ..

theorem final_val : (windowEnd p mean load locked own).2.final.val =
    (windowEnd p mean load locked own).2.ceiled.val - (windowEnd p mean load locked own).2.deduction := rfl

theorem windowEnd_fell (h : (windowEnd p mean load locked own).2.final < own) :
    (windowEnd p mean load locked own).1 = (windowEnd p mean load locked own).2.final
      ∧ (windowEnd p mean load locked own).2.outcome = .fell := by
  simp only [windowEnd] at h ⊢
  simp [h]

theorem windowEnd_unchanged (h : (windowEnd p mean load locked own).2.final = own) :
    (windowEnd p mean load locked own).1 = own ∧ (windowEnd p mean load locked own).2.outcome = .unchanged := by
  simp only [windowEnd] at h ⊢
  simp [h]

theorem windowEnd_rose (h : own < (windowEnd p mean load locked own).2.final) (hl : locked = true) :
    (windowEnd p mean load locked own).1.val = own.val + 1
      ∧ (windowEnd p mean load locked own).2.outcome = .rose := by
  have hlt : own.val + 1 < 8 := by
    have hval : own.val < (windowEnd p mean load locked own).2.final.val := h
    omega
  simp only [windowEnd] at h ⊢
  simp [h, not_lt.mpr h.le, hl, stepUp, hlt]

theorem windowEnd_held (h : own < (windowEnd p mean load locked own).2.final) (hl : locked = false) :
    (windowEnd p mean load locked own).1 = own ∧ (windowEnd p mean load locked own).2.outcome = .held := by
  simp only [windowEnd] at h ⊢
  simp [h, not_lt.mpr h.le, hl]

/-- A window end brings the own step no further than one up, that only when locked, and within the ceiling. -/
theorem windowEnd_step (h : PlanInRange p) :
    (windowEnd p mean load locked own).1.val ≤ own.val + 1
      ∧ (own.val < (windowEnd p mean load locked own).1.val →
          locked = true ∧ (windowEnd p mean load locked own).1.val + 1 ≤ p.sMax)
      ∧ (own.val + 1 ≤ p.sMax → (windowEnd p mean load locked own).1.val + 1 ≤ p.sMax) := by
  have hsmax : 1 ≤ p.sMax := by obtain ⟨-, -, -, -, -, -, -, -, -, ⟨hmin, -⟩, -⟩ := h; exact hmin
  have hfinal : (windowEnd p mean load locked own).2.final.val ≤ p.sMax - 1 := by
    rw [final_val, ceiled_val h]; omega
  rcases lt_trichotomy (windowEnd p mean load locked own).2.final own with hlt | heq | hgt
  · obtain ⟨e, -⟩ := windowEnd_fell hlt
    have hval : (windowEnd p mean load locked own).2.final.val < own.val := hlt
    rw [e]
    refine ⟨by omega, by omega, by omega⟩
  · obtain ⟨e, -⟩ := windowEnd_unchanged heq
    rw [e]
    exact ⟨by omega, by omega, by omega⟩
  · have hval : own.val < (windowEnd p mean load locked own).2.final.val := hgt
    cases locked with
    | true =>
      obtain ⟨e, -⟩ := windowEnd_rose hgt rfl
      rw [e]
      exact ⟨le_rfl, fun _ => ⟨rfl, by omega⟩, fun _ => by omega⟩
    | false =>
      obtain ⟨e, -⟩ := windowEnd_held hgt rfl
      rw [e]
      exact ⟨by omega, by omega, by omega⟩

/-! ### The three outcomes of the selector (R121, R122) -/

theorem selectStep_falls (h : 2 * p.thresholds[pu.step] < spread) : selectStep p spread load locked pu =
    { pu with step := ⟨pu.step.val - 1, by omega⟩, windowSum := 0, windowCount := 0 } := if_pos h

theorem selectStep_gathers (h : spread ≤ 2 * p.thresholds[pu.step]) (hc : pu.windowCount + 1 < 32) :
    selectStep p spread load locked pu =
      { pu with windowSum := min 2097151 (pu.windowSum + spread), windowCount := pu.windowCount + 1 } := by
  unfold selectStep
  rw [if_neg (show ¬ 2 * thresholdOf p pu.step < spread from not_lt.mpr h)]
  exact if_neg (by omega)

/-- The decision of the window end at the 32nd spread. -/
def windowDecided (p : Plan) (spread load : Nat) (locked : Bool) (pu : PaceUnit) : Step × WindowRecord :=
  windowEnd p (min 2097151 (pu.windowSum + spread) / 32) load locked pu.step

theorem selectStep_decides (h : spread ≤ 2 * p.thresholds[pu.step]) (hc : 32 ≤ pu.windowCount + 1) :
    selectStep p spread load locked pu =
      { pu with step := (windowDecided p spread load locked pu).1, windowSum := 0, windowCount := 0,
                lastWindow := some (windowDecided p spread load locked pu).2 } := by
  unfold selectStep
  rw [if_neg (show ¬ 2 * thresholdOf p pu.step < spread from not_lt.mpr h)]
  exact if_pos hc

/-- The own step after any computation (R121, R122, R124 to R126). -/
theorem selectStep_step (h : PlanInRange p) :
    (selectStep p spread load locked pu).step.val ≤ pu.step.val + 1
      ∧ (pu.step.val < (selectStep p spread load locked pu).step.val → locked = true ∧ 32 ≤ pu.windowCount + 1
          ∧ (selectStep p spread load locked pu).step.val + 1 ≤ p.sMax)
      ∧ (pu.step.val + 1 ≤ p.sMax → (selectStep p spread load locked pu).step.val + 1 ≤ p.sMax) := by
  by_cases hfall : 2 * p.thresholds[pu.step] < spread
  · rw [selectStep_falls hfall]
    exact ⟨by dsimp only; omega, by dsimp only; omega, by dsimp only; omega⟩
  · by_cases hc : 32 ≤ pu.windowCount + 1
    · rw [selectStep_decides (not_lt.mp hfall) hc]
      obtain ⟨hle, hrise, hceiling⟩ := windowEnd_step (p := p) (mean := min 2097151 (pu.windowSum + spread) / 32)
        (load := load) (locked := locked) (own := pu.step) h
      exact ⟨hle, fun hlt => ⟨(hrise hlt).1, hc, (hrise hlt).2⟩, hceiling⟩
    · rw [selectStep_gathers (not_lt.mp hfall) (by omega)]
      exact ⟨by dsimp only; omega, by dsimp only; omega, id⟩

end Sys2Proof.Machine

open Sys2Proof Sys2Proof.Machine Sys2Proof.Safety

/-- Settles O34: the selector's step, its three outcomes with the decision of a window end, and the proposal. -/
theorem stepSelectorLaws : Obligations.StepSelectorLaws := by
  refine ⟨fun p spread load locked pu h => ?_, fun p mean h hmean => ?_⟩
  · obtain ⟨hle, hrise, hceiling⟩ :=
      selectStep_step (spread := spread) (load := load) (locked := locked) (pu := pu) h
    refine ⟨hle, hrise, hceiling, selectStep_falls, selectStep_gathers, fun hs hc => ?_⟩
    rw [selectStep_decides hs hc]
    exact ⟨_, rfl, ceiled_val h, rfl, final_val, windowEnd_fell, windowEnd_unchanged, windowEnd_rose,
      windowEnd_held⟩
  · obtain ⟨hmeets, habove⟩ := proposal_spec h hmean
    exact ⟨fun k hk => hmeets.trans (thresholds_antitone h hk), habove⟩

end

section
/-! PROOFS. A completed position read: what it does to the column, to the words on their way to the drive and to the
flags, and the computation of a halted node (R42 to R44, R51, R100, R111, R115, R147). -/

namespace Sys2Proof.Machine

open Sys2Proof Sys2Proof.Safety

variable {s t u : State} {p : Plan}

/-! ### The course of a completed read -/

/-- A change beside the words of the drive, the demand, the control sample, the halt record and the flags. -/
structure Plain (s t : State) : Prop where
  transfer : t.ci.transfer = s.ci.transfer := by rfl
  nextWord : t.ci.nextWord = s.ci.nextWord := by rfl
  lastWord : t.ci.lastWord = s.ci.lastWord := by rfl
  demand : t.pu.demand = s.pu.demand := by rfl
  sample : t.pu.sample = s.pu.sample := by rfl
  record : t.tm.record = s.tm.record := by rfl
  flags : t.tm.flags = s.tm.flags := by rfl

/-- `t` is come to from `s` by changes beside drive and halt, by stops of the drive where `stops` permits them, and by
trips other than ENCODER_FAULT. -/
inductive Course (stops : Bool) (s : State) : State → Prop where
  | refl : Course stops s s
  | plain {t u : State} : Course stops s t → Plain t u → Course stops s u
  | stop {t : State} : stops = true → Course stops s t → Course stops s (safeDrive t)
  | trip {t : State} (k : Cause) (d : Option TravelSide) (n : Option NodeNum) : k ≠ .encoderFault →
      Course stops s t → Course stops s (trip k d n t)

section course

variable {b : Bool}

theorem Course.tripAll (h : Course b s t) {xs : List (Cause × Option TravelSide)}
    (hx : ∀ x ∈ xs, x.1 ≠ .encoderFault) : Course b s (Machine.tripAll xs t) := by
  induction xs generalizing t with
  | nil => exact h
  | cons x xs ih =>
    exact ih (h.trip _ _ _ (hx x List.mem_cons_self)) (fun y hy => hx y (List.mem_cons_of_mem x hy))

theorem switchCauses_ne_encoderFault (ph : Phase) (l : FilteredLevels) :
    ∀ x ∈ switchCauses ph l, x.1 ≠ .encoderFault := by
  intro x hx
  simp only [switchCauses, List.mem_append] at hx
  rcases hx with (((hx | hx) | hx) | hx) | hx <;> split at hx <;> simp at hx <;> subst hx <;> simp

theorem loadCauses_ne_encoderFault (s : State) : ∀ x ∈ loadCauses s, x.1 ≠ .encoderFault := by
  intro x hx
  unfold loadCauses at hx
  split at hx
  · simp at hx
  · rw [List.mem_append] at hx
    rcases hx with hx | hx <;> split at hx <;> simp at hx <;> subst hx <;> simp

theorem paceAt_demand (old new : Phase) (pu : PaceUnit) : (paceAt old new pu).demand = pu.demand := by
  unfold paceAt; dsimp only; split <;> split <;> rfl

theorem paceAt_sample (old new : Phase) (pu : PaceUnit) : (paceAt old new pu).sample = pu.sample := by
  unfold paceAt; dsimp only; split <;> split <;> rfl

theorem selectStep_sample (p : Plan) (sp load : Nat) (lk : Bool) (pu : PaceUnit) :
    (selectStep p sp load lk pu).sample = pu.sample := by
  unfold selectStep
  dsimp only
  split
  · rfl
  · split <;> rfl

theorem plain_enterPhase (new : Phase) (s : State) : Plain s (enterPhase new s) where
  transfer := by simp
  nextWord := by simp
  lastWord := by simp
  demand := by rw [enterPhase_pu, paceAt_demand]
  sample := by rw [enterPhase_pu, paceAt_sample]
  record := by simp
  flags := by simp

theorem plain_latchWhen (c : Bool) (e : Event) (s : State) : Plain s (latchWhen c e s) where
  transfer := by simp
  nextWord := by simp
  lastWord := by simp
  demand := by simp
  sample := by simp
  record := by simp
  flags := by simp

theorem Course.columnAt (h : Course b s t) (old new : Phase) (hb : b = true ∨ isMoving old = false) :
    Course b s (Machine.columnAt old new t) := by
  have h1 : Course b s (if new = .retract then t.withCi { t.ci with contactHeight := none } else t) := by
    split
    · exact h.plain {}
    · exact h
  unfold Machine.columnAt
  generalize (if new = .retract then t.withCi { t.ci with contactHeight := none } else t) = u at h1
  dsimp only
  split
  · split
    · exact Course.trip (t := u.withCi _) _ _ _ (by simp) (h1.plain {})
    · split
      · exact h1
      · exact h1.plain {}
  · split
    · next hmove =>
      refine h1.stop (hb.resolve_right fun hold => ?_)
      simp [hold] at hmove
    · exact h1

theorem Course.changePhase (h : Course b s t) (new : Phase) (hb : b = true ∨ isMoving t.phc.phase = false) :
    Course b s (Machine.changePhase new t) := by
  unfold Machine.changePhase
  split
  · exact h
  · have h1 := (h.plain (plain_enterPhase new t)).columnAt t.phc.phase new hb
    dsimp only
    split
    · refine h1.tripAll fun x hx => ?_
      rcases List.mem_append.1 hx with hx | hx
      · exact switchCauses_ne_encoderFault _ _ x hx
      · exact loadCauses_ne_encoderFault _ x hx
    · exact h1

theorem Course.tellAccepted (h : Course b s t) (d : Direction) : Course b s (Machine.tellAccepted d t) := by
  rcases tellAccepted_cases d t with e | ⟨-, hph, e⟩ | ⟨-, hph, e⟩ <;> rw [e]
  · exact h
  · exact h.changePhase _ (.inr (by rw [hph]; rfl))
  · exact h.changePhase _ (.inr (by rw [hph]; rfl))

theorem Course.applyPending (h : Course b s t) : Course b s (Machine.applyPending t) := by
  unfold Machine.applyPending
  split
  · split
    · exact h.tellAccepted _
    · exact h
  · exact h

theorem Course.decideStartup (h : Course b s t) : Course b s (Machine.decideStartup t) := by
  unfold Machine.decideStartup
  split
  · exact h
  · split
    · exact h
    · have h1 : Course b s (t.withPhc { t.phc with startup := { t.phc.startup with done := true } }) := h.plain {}
      dsimp only
      split
      · exact h1.trip _ _ _ (by simp)
      · split
        · next hph => exact (h1.changePhase _ (.inr (by rw [hph]; rfl))).applyPending
        · exact h1

theorem Course.noteValidRead (h : Course b s t) : Course b s (Machine.noteValidRead t) := by
  unfold Machine.noteValidRead
  split
  · exact h
  · exact Course.decideStartup (t := t.withPhc _) (h.plain {})

theorem Course.retractCheck (h : Course true s t) (p : Plan) : Course true s (Machine.retractCheck p t) := by
  unfold Machine.retractCheck
  split
  · exact Course.changePhase (t := setLastStop .arrived t) (h.plain {}) _ (.inl rfl)
  · exact h

theorem Course.arrive (h : Course true s t) : Course true s (Machine.arrive t) :=
  Course.changePhase (t := setLastStop .arrived t) (h.plain {}) _ (.inl rfl)

theorem Course.judgePace (h : Course b s t) (p : Plan) (v : LineView) : Course b s (Machine.judgePace p v t) := by
  unfold Machine.judgePace
  dsimp only
  split
  · have ⟨hdemand, _⟩ := paceJudged_kept p v (loadNumber t.ci) t.pu
    have h1 : Course b s (t.withPu (paceJudged p v (loadNumber t.ci) t.pu)) := h.plain {
      demand := hdemand
      sample := selectStep_sample _ _ _ _ _ }
    exact (h1.plain (plain_latchWhen _ _ _)).plain (plain_latchWhen _ _ _)
  · exact h

theorem Course.checkSample (h : Course b s t) (p : Plan) (c : ControlSample) :
    Course b s (Machine.checkSample p c t) := by
  unfold Machine.checkSample
  extract_lets stall drift peer _ s1 s2 s3
  have h1 : Course b s s1 := h.plain {}
  have h2 : Course b s s2 := by
    simp only [s2]; split
    · exact h1.trip _ _ _ (by simp)
    · exact h1
  have h3 : Course b s s3 := by
    simp only [s3]; split
    · exact h2.trip _ _ _ (by simp)
    · exact h2
  split
  · exact h3.trip _ _ _ (by simp)
  · exact h3

theorem Course.startCondition (h : Course b s t) (p : Plan) : Course b s (Machine.startCondition p t) := by
  rcases startCondition_cases p t with e | ⟨ss, -, -, -, -, -, e⟩ <;> rw [e]
  · exact h
  · have h1 : Course b s (t.withSu { t.su with session := some { ss with state := .running } }) := h.plain {}
    rcases tellStarted_cases p ss.dir (t.withSu { t.su with session := some { ss with state := .running } }) with
      e | e | ⟨hph, hnew⟩
    · rw [e]; exact h1
    · rw [e]; exact h1.plain {}
    · have hrest : isMoving t.phc.phase = false := by
        change t.phc.phase = _ ∨ t.phc.phase = _ ∨ t.phc.phase = _ at hph
        rcases hph with e | e | e <;> rw [e] <;> rfl
      rcases hnew with ⟨-, -, e⟩ | ⟨-, -, e⟩ | ⟨-, -, e⟩ <;> rw [e] <;> exact h1.changePhase _ (.inr hrest)

end course

/-! ### What a course keeps -/

theorem hasFlag_foldl_other {c : Cause} {cs : List (Cause × Option TravelSide)} (h : ∀ x ∈ cs, x.1 ≠ c)
    (s : State) :
    hasFlag (cs.foldl (fun t c => setFlag c.1 c.2 t) s).tm.flags c = hasFlag s.tm.flags c := by
  induction cs generalizing s with
  | nil => rfl
  | cons x cs ih =>
    refine (ih (fun y hy => h y (List.mem_cons_of_mem x hy)) (setFlag x.1 x.2 s)).trans ?_
    simp [hasFlag_withFlag, h x List.mem_cons_self]

theorem trip_keeps_encoderFault {k : Cause} (hk : k ≠ .encoderFault) (d : Option TravelSide) (n : Option NodeNum)
    (s : State) : hasFlag (trip k d n s).tm.flags .encoderFault = hasFlag s.tm.flags .encoderFault := by
  have horder : ∀ t : State, hasFlag (haltOrder t).tm.flags .encoderFault = hasFlag t.tm.flags .encoderFault := by
    intro t
    unfold haltOrder
    dsimp only
    split
    · simp
    · rw [hasFlag_foldl_other (switchCauses_ne_encoderFault _ _)]; simp
  rcases trip_cases k d n s with ⟨-, e⟩ | ⟨-, -, e⟩ | ⟨-, -, e⟩ <;> rw [e]
  · simp [hasFlag_withFlag, hk]
  · simp [localHalt, applyHalt, horder, hasFlag_withFlag, hk]

theorem Course.encoderFault {b : Bool} (h : Course b s t) :
    hasFlag t.tm.flags .encoderFault = hasFlag s.tm.flags .encoderFault := by
  induction h with
  | refl => rfl
  | plain _ hplain ih => rw [hplain.flags, ih]
  | stop _ _ ih => rw [← ih]; simp
  | trip k d n hk _ ih => rw [trip_keeps_encoderFault hk, ih]

/-- Words have gone behind the one in transfer, and none has come out (R51). -/
structure WordsWait (ci ci' : ColumnInterface) : Prop where
  ordered : (ci.transfer = none → ci.nextWord = none) → ci'.transfer = none → ci'.nextWord = none
  transfer : ∀ d, ci.transfer = some d → ci'.transfer = some d
  waits : ci.nextWord.isSome = true → ci'.nextWord.isSome = true
  lastWord : ci'.lastWord = ci.lastWord

theorem WordsWait.of_eq {ci ci' : ColumnInterface} (ht : ci'.transfer = ci.transfer) (hn : ci'.nextWord = ci.nextWord)
    (hl : ci'.lastWord = ci.lastWord) : WordsWait ci ci' :=
  ⟨fun h => by rw [ht, hn]; exact h, fun d h => ht.trans h, fun h => hn ▸ h, hl⟩

theorem WordsWait.trans {a b c : ColumnInterface} (h : WordsWait a b) (h' : WordsWait b c) : WordsWait a c :=
  ⟨fun ha => h'.ordered (h.ordered ha), fun d hd => h'.transfer d (h.transfer d hd),
    fun hn => h'.waits (h.waits hn), h'.lastWord.trans h.lastWord⟩

theorem wordsWait_sendWord (w : Word) (ci : ColumnInterface) : WordsWait ci (sendWord w ci) := by
  rcases sendWord_cases w ci with ⟨ht, e⟩ | ⟨ht, e⟩ <;> rw [e]
  · exact ⟨fun h _ => h ht, fun d hd => absurd (hd.symm.trans ht) (by simp), id, rfl⟩
  · exact ⟨fun h h' => absurd ht (by simp [show ci.transfer = none from h']), fun _ hd => hd, fun _ => rfl, rfl⟩

theorem wordsWait_safeDrive (s : State) : WordsWait s.ci (safeDrive s).ci :=
  WordsWait.trans (b := setDrive false s.ci) (.of_eq rfl rfl rfl) (wordsWait_sendWord 0 _)

/-- A trip leaves drive, demand and record, or halts the node with the drive safe (R139, R140). -/
theorem trip_plain_or_halts (k : Cause) (d : Option TravelSide) (n : Option NodeNum) (s : State) :
    ((trip k d n s).ci = s.ci ∧ (trip k d n s).pu = s.pu ∧ (trip k d n s).tm.record = s.tm.record)
      ∨ (s.tm.record = none ∧ (trip k d n s).tm.record.isSome = true ∧ (trip k d n s).ci = (safeDrive s).ci
        ∧ (trip k d n s).pu.demand = 0 ∧ (trip k d n s).pu.sample = s.pu.sample) := by
  rcases trip_cases k d n s with ⟨-, e⟩ | ⟨-, -, e⟩ | ⟨-, hrunning, e⟩ <;> rw [e]
  · exact .inl ⟨rfl, rfl, rfl⟩
  · exact .inl ⟨rfl, rfl, rfl⟩
  · obtain ⟨hrec, -, -, -, hdemand, -⟩ := applyHalt_spec (localRecord k n (setFlag k d s))
      (compose (haltFrame k n (setFlag k d s)) (setFlag k d s))
    refine .inr ⟨by simpa [isHalted] using hrunning, by rw [localHalt, hrec]; rfl, ?_, hdemand, ?_⟩
    · rw [localHalt, applyHalt_ci]
      simp [safeDrive, setFlag]
    · have horder : ∀ t : State, (haltOrder t).pu.sample = t.pu.sample := by
        intro t
        unfold haltOrder
        dsimp only
        split
        · rfl
        · rw [foldl_setFlag_pu, enterPhase_pu, paceAt_sample]; rfl
      simp [localHalt, applyHalt, horder, setFlag]

theorem wordsWait_trip (k : Cause) (d : Option TravelSide) (n : Option NodeNum) (s : State) :
    WordsWait s.ci (trip k d n s).ci := by
  rcases trip_plain_or_halts k d n s with ⟨e, -⟩ | ⟨-, -, e, -⟩ <;> rw [e]
  · exact .of_eq rfl rfl rfl
  · exact wordsWait_safeDrive s

theorem Course.words {b : Bool} (h : Course b s t) : WordsWait s.ci t.ci := by
  induction h with
  | refl => exact .of_eq rfl rfl rfl
  | plain _ hplain ih => exact ih.trans (.of_eq hplain.transfer hplain.nextWord hplain.lastWord)
  | stop _ _ ih => exact ih.trans (wordsWait_safeDrive _)
  | trip k d n _ _ ih => exact ih.trans (wordsWait_trip k d n _)

theorem Course.sample {b : Bool} (h : Course b s t) : t.pu.sample = s.pu.sample := by
  induction h with
  | refl => rfl
  | plain _ hplain ih => rw [hplain.sample, ih]
  | stop _ _ ih => rw [← ih]; rfl
  | @trip u k d n _ _ ih =>
    rcases trip_plain_or_halts k d n u with ⟨-, e, -⟩ | ⟨-, -, -, -, e⟩ <;> rw [e, ih]

/-- Without stops the demand stands until a halt makes it 0 (R51, R111). -/
theorem Course.demand (h : Course false s t) :
    (t.tm.record = s.tm.record ∧ t.pu.demand = s.pu.demand)
      ∨ (s.tm.record = none ∧ t.tm.record.isSome = true ∧ t.pu.demand = 0) := by
  induction h with
  | refl => exact .inl ⟨rfl, rfl⟩
  | plain _ hplain ih => rw [hplain.record, hplain.demand]; exact ih
  | stop hb _ _ => cases hb
  | @trip u k d n _ _ ih =>
    rcases trip_plain_or_halts k d n u with ⟨-, hpu, hrec⟩ | ⟨hnone, hsome, -, hdemand, -⟩
    · rw [hpu, hrec]; exact ih
    · refine .inr ⟨?_, hsome, hdemand⟩
      rcases ih with ⟨e, -⟩ | ⟨e, -⟩
      · exact e.symm.trans hnone
      · exact e

/-- The last word on its way to the drive. -/
def LastSent (ci : ColumnInterface) (d : DemandWord) : Prop :=
  ci.nextWord = some d ∨ ci.nextWord = none ∧ ci.transfer = some d

theorem lastSent_sendWord (w : Word) {ci : ColumnInterface} (h : ci.transfer = none → ci.nextWord = none) :
    LastSent (sendWord w ci) (demandWord w) := by
  rcases sendWord_cases w ci with ⟨ht, e⟩ | ⟨-, e⟩ <;> rw [e]
  · exact .inr ⟨h ht, rfl⟩
  · exact .inl rfl

/-- The demand is the last word that has gone to the drive (R51). -/
def DemandSent (s : State) : Prop :=
  (s.ci.transfer = none → s.ci.nextWord = none) ∧ LastSent s.ci (demandWord (BitVec.ofInt 16 s.pu.demand))

theorem Course.demandSent (h : Course false s t) (hs : DemandSent s) : DemandSent t := by
  induction h with
  | refl => exact hs
  | plain _ hplain ih =>
    unfold DemandSent LastSent at *
    rwa [hplain.transfer, hplain.nextWord, hplain.demand]
  | stop hb _ _ => cases hb
  | @trip u k d n _ _ ih =>
    obtain ⟨hordered, hsent⟩ := ih
    refine ⟨(wordsWait_trip k d n u).ordered hordered, ?_⟩
    rcases trip_plain_or_halts k d n u with ⟨hci, hpu, -⟩ | ⟨-, -, hci, hdemand, -⟩
    · rw [hci, hpu]; exact hsent
    · rw [hci, hdemand]
      exact lastSent_sendWord 0 (ci := setDrive false u.ci) hordered

end Sys2Proof.Machine
end

section
/-! PROOFS. The stages of a computation and its checks, the read that completes, and the demand that it hands to the
drive (R43, R44, R51, R100 to R111, R115, R143). -/

namespace Sys2Proof.Machine

open Sys2Proof Sys2Proof.Safety

variable {s t : State} {p : Plan}

/-! ### The stages (R100 to R116) -/

/-- Stage 5 over what stages 1 to 4 find (R105). -/
def judged (p : Plan) (s : State) : State := judgePace p (lineView p s) s

/-- Stage 8: the arrival, where the target is reached (R108). -/
def stood (p : Plan) (s : State) : State :=
  if hasArrived p (judged p s) (lineView p s).lift then arrive (judged p s) else judged p s

/-- Stages 6 and 7: the base speed of the set step (R106, R107). -/
def setSpeed (p : Plan) (s : State) : Nat :=
  baseSpeed p (judged p s) (lineView p s).lift (setStep (lineView p s) (judged p s).pu.step)

/-- Stages 9 to 11: the demand held and handed to the drive (R109 to R112). -/
def given (p : Plan) (s : State) : State :=
  giveDemand (demandOf p (stood p s) (setSpeed p s) (lineView p s).lead) (stood p s)

/-- The control sample (R115). -/
def sampled (p : Plan) (s : State) : ControlSample := sampleOf (lineView p s) (given p s)

theorem height_of_measured {ci ci' : ColumnInterface} (h : measured ci' = measured ci) : ci'.height = ci.height := by
  rw [eq_of_measured h]

@[simp] theorem stood_measured (p : Plan) (s : State) : measured (stood p s).ci = measured s.ci := by
  unfold stood; split <;> simp [judged, arrive]

@[simp] theorem given_measured (p : Plan) (s : State) : measured (given p s).ci = measured s.ci := by simp [given]

theorem sampled_phase (p : Plan) (s : State) : (sampled p s).phase = (stood p s).phc.phase := by
  simp [sampled, sampleOf, given]

theorem sampled_height (p : Plan) (s : State) : (sampled p s).height = s.ci.height :=
  height_of_measured (given_measured p s)

theorem sampled_demand (p : Plan) (s : State) :
    (sampled p s).demand = (demandOf p (stood p s) (setSpeed p s) (lineView p s).lead).1 := by
  simp [sampled, sampleOf, given, giveDemand]

theorem paceStages_eq (p : Plan) (s : State) : paceStages p s = publish p (lineView p s) (given p s) := rfl

theorem paceStages_pu (p : Plan) (s : State) : (paceStages p s).pu =
    { (given p s).pu with sample := some (sampled p s), lifting := p.node :: (lineView p s).peers.map (·.1) } := by
  simp [paceStages_eq, publish, sampled]

theorem computation_eq (p : Plan) (s : State) : computation p s =
    startCondition p (checkSample p (sampled p (retractCheck p s)) (paceStages p (retractCheck p s))) := by
  simp [computation, paceStages_pu]

/-! ### The checks at the sample (R143) -/

/-- The causes that hold at a sample, in their order (R143). -/
def checkCauses (p : Plan) (c : ControlSample) (s : State) : List (Cause × Option NodeNum) :=
  (if (differentialPeer p c s.pt).isSome then [(.differential, differentialPeer p c s.pt)] else [])
    ++ (if p.stallLimit ≤ stallAfter c s.tm then [(.stall, none)] else [])
    ++ (if driftHolds p c s.tm then [(.drift, none)] else [])

/-- The stall counter and the height of the sample, as kept for the next one (R145). -/
def stallCounted (c : ControlSample) (s : State) : State :=
  s.withTm { s.tm with stall := stallAfter c s.tm, prevHeight := c.height }

/-- The checks that hold trip one after the other (R143, R147). -/
def tripChecks (xs : List (Cause × Option NodeNum)) (s : State) : State := xs.foldl (fun t x => trip x.1 none x.2 t) s

theorem checkSample_eq (p : Plan) (c : ControlSample) (s : State) :
    checkSample p c s = tripChecks (checkCauses p c s) (stallCounted c s) := by
  unfold checkSample checkCauses
  by_cases h1 : (differentialPeer p c s.pt).isSome <;> by_cases h2 : p.stallLimit ≤ stallAfter c s.tm <;>
    cases h3 : driftHolds p c s.tm <;> simp [h1, h2, tripChecks, stallCounted]

/-- At a halted node the checks set flags alone (R140). -/
theorem tripChecks_halted (xs : List (Cause × Option NodeNum)) (hr : s.tm.record.isSome = true) :
    ∃ f d, tripChecks xs s = s.withTm { s.tm with flags := f, travelSide := d } := by
  induction xs generalizing s with
  | nil => exact ⟨s.tm.flags, s.tm.travelSide, rfl⟩
  | cons x xs ih =>
    rcases trip_cases x.1 none x.2 s with ⟨-, e⟩ | ⟨-, -, e⟩ | ⟨-, hrunning, -⟩
    · obtain ⟨f, d, e'⟩ := ih (s := s) hr
      exact ⟨f, d, by rw [← e', tripChecks, List.foldl_cons, e]; rfl⟩
    · obtain ⟨f, d, e'⟩ := ih (s := setFlag x.1 none s) hr
      exact ⟨f, d, by rw [tripChecks, List.foldl_cons, e]; exact e'⟩
    · simp [isHalted, hr] at hrunning

/-! ### A computation of a halted node (R112, R116, R140) -/

theorem startCondition_away {ph : Phase} (hph : s.phc.phase = ph) (h1 : ph ≠ .contact) (h2 : ph ≠ .hold)
    (h3 : ph ≠ .idle) (p : Plan) : startCondition p s = s := by
  subst hph
  have hawaits : ∀ d, awaitsStart s.phc.phase d = false := by
    intro d; cases d <;> simp [awaitsStart, h1, h2, h3]
  unfold startCondition
  split
  · rfl
  · simp [hawaits]

theorem retractCheck_away (h : s.phc.phase ≠ .retract) (p : Plan) : retractCheck p s = s := by
  simp [retractCheck, h]

theorem hasArrived_away (h1 : s.phc.phase ≠ .lift) (h2 : s.phc.phase ≠ .lower) (p : Plan) (w : Word) :
    hasArrived p s w = false := by
  cases h : hasArrived p s w with
  | false => rfl
  | true => exact absurd (hasArrived_pacing h) (by simp [h1, h2])

/-- Outside LIFT and LOWER stages 5 and 8 are passed over (R105, R108). -/
theorem stood_unpaced (h : isPacing s.phc.phase = false) (p : Plan) : stood p s = s := by
  have hlift : s.phc.phase ≠ .lift := fun e => by rw [e] at h; cases h
  have hlower : s.phc.phase ≠ .lower := fun e => by rw [e] at h; cases h
  have hjudged : judged p s = s := by simp [judged, judgePace, h]
  rw [stood, hjudged, hasArrived_away hlift hlower]
  rfl

theorem checkCauses_halted {c : ControlSample} (hc : c.phase = .halted) (hd : c.demand = 0) (p : Plan) (s : State) :
    checkCauses p c s = if p.stallLimit = 0 then [(.stall, none)] else [] := by
  have hpeer : differentialPeer p c s.pt = none := by simp [differentialPeer, hc, isLoaded]
  have hstall : stallAfter c s.tm = 0 := by simp [stallAfter, hd]
  have hdrift : driftHolds p c s.tm = false := by
    unfold driftHolds; split <;> simp [hc, isResting]
  simp [checkCauses, hpeer, hstall, hdrift]

/-- A computation of a halted node: demand 0, and nothing of record, session or drive lines moves. -/
theorem computation_halted (hph : s.phc.phase = .halted) (hr : s.tm.record.isSome = true) (p : Plan) :
    ∃ f d, (computation p s).tm = { s.tm with flags := f, travelSide := d, stall := 0, prevHeight := s.ci.height }
      ∧ (p.stallLimit ≠ 0 → f = s.tm.flags)
      ∧ (computation p s).phc = s.phc ∧ (computation p s).su = s.su
      ∧ (computation p s).ci = sendWord 0 s.ci ∧ (computation p s).pu.demand = 0
      ∧ (computation p s).pu.sample.map (fun c => (c.phase, c.demand)) = some (.halted, 0) := by
  have hstood : stood p s = s := stood_unpaced (by rw [hph]; rfl) p
  have hdemand : demandOf p s (setSpeed p s) (lineView p s).lead = (0, false) := by simp [demandOf, hph]
  have hgiven : given p s = giveDemand (0, false) s := by rw [given, hstood, hdemand]
  have hphase : (sampled p s).phase = .halted := by rw [sampled_phase, hstood, hph]
  have hzero : (sampled p s).demand = 0 := by rw [sampled_demand, hstood, hdemand]
  let v := paceStages p s
  have hvtm : v.tm = s.tm := by simp [v, paceStages_eq, hgiven]
  have hvphc : v.phc = s.phc := by simp [v, paceStages_eq, hgiven]
  obtain ⟨f, d, hchecks⟩ := tripChecks_halted (s := stallCounted (sampled p s) v)
    (checkCauses p (sampled p s) v) (by simpa [stallCounted, hvtm] using hr)
  have hf : p.stallLimit ≠ 0 → f = s.tm.flags := by
    intro hlimit
    rw [checkCauses_halted hphase hzero, if_neg hlimit] at hchecks
    simpa [stallCounted, tripChecks, hvtm] using (congrArg (fun u : State => u.tm.flags) hchecks).symm
  have hcomputation : computation p s = (stallCounted (sampled p s) v).withTm
      { (stallCounted (sampled p s) v).tm with flags := f, travelSide := d } := by
    rw [computation_eq, retractCheck_away (by rw [hph]; decide), checkSample_eq, hchecks]
    exact startCondition_away (ph := .halted) (by simp [stallCounted, v, hvphc, hph]) (by simp) (by simp) (by simp) p
  have hstall : stallAfter (sampled p s) v.tm = 0 := by simp [stallAfter, hzero]
  refine ⟨f, d, ?_, hf, ?_, ?_, ?_, ?_, ?_⟩ <;> rw [hcomputation]
  · simp [stallCounted, hvtm, stallAfter, hzero, sampled_height]
  · simp [stallCounted, hvphc]
  · simp [stallCounted, v, paceStages_eq, hgiven]
  · simp [stallCounted, v, paceStages_eq, hgiven, giveDemand]
  · simp [stallCounted, v, paceStages_pu, hgiven, giveDemand]
  · simp [stallCounted, v, paceStages_pu, hphase, hzero]

/-! ### The read itself (R43, R44) -/

theorem exec_positionReadComplete (hp : s.ps.plan = some p) (hread : s.ci.read = .inFlight) (a : Bool) (w : Word)
    (b f : Bool) : exec (.positionReadComplete a w b f) s = .next (readHandedOn p (readValid a w b f) w s) := by
  simp [exec, execPositionReadComplete, readComplete, hp, hread]

theorem readValid_iff {a : Bool} {w : Word} {b f : Bool} :
    readValid a w b f = true ↔ a = false ∧ b = evenParity w ∧ f = true := by
  simp [readValid, and_assoc]

/-- The node as the computation finds it: the read taken, start-up's event noted, or the encoder at fault. -/
def readTaken (p : Plan) (valid : Bool) (w : Word) (s : State) : State :=
  let s1 := s.withCi (takeRead valid w p.datum s.ci)
  if valid then noteValidRead s1
  else if s1.ci.invalidRun = 2 then trip .encoderFault none none s1
  else s1

theorem readHandedOn_eq (p : Plan) (valid : Bool) (w : Word) (s : State) :
    readHandedOn p valid w s = computation p (readTaken p valid w s) := rfl

theorem readTaken_measured (p : Plan) (valid : Bool) (w : Word) (s : State) :
    measured (readTaken p valid w s).ci = measured (takeRead valid w p.datum s.ci) := by
  unfold readTaken
  dsimp only
  split
  · simp
  · split <;> simp

@[simp] theorem readTaken_ps (p : Plan) (valid : Bool) (w : Word) (s : State) : (readTaken p valid w s).ps = s.ps := by
  unfold readTaken
  dsimp only
  split
  · simp
  · split <;> simp

theorem takeRead_plain (valid : Bool) (w d : Word) (s : State) : Plain s (s.withCi (takeRead valid w d s.ci)) := by
  unfold takeRead
  split <;> exact {}

/-- Unless it brings the run to 2, the read comes to the computation on a course without stops. -/
theorem course_readTaken {valid : Bool} (h : valid = true ∨ s.ci.invalidRun ≠ 1) (p : Plan) (w : Word) :
    Course false s (readTaken p valid w s) := by
  have h1 : Course false s (s.withCi (takeRead valid w p.datum s.ci)) := Course.refl.plain (takeRead_plain ..)
  cases valid with
  | true => exact h1.noteValidRead
  | false =>
    have hrun : ¬ (s.withCi (takeRead false w p.datum s.ci)).ci.invalidRun = 2 := by
      have := h.resolve_left (by simp)
      simp [takeRead]; omega
    simp only [readTaken, hrun]
    exact h1

theorem readTaken_encoderFault (h : s.ci.invalidRun = 1) (p : Plan) (w : Word) :
    readTaken p false w s = trip .encoderFault none none (s.withCi (takeRead false w p.datum s.ci)) := by
  simp [readTaken, takeRead, h]

theorem course_computation (p : Plan) (s : State) : Course true s (stood p (retractCheck p s)) := by
  have h1 : Course true s (judged p (retractCheck p s)) := (Course.refl.retractCheck p).judgePace p _
  unfold stood
  split
  · exact h1.arrive
  · exact h1

theorem plain_paceStages (p : Plan) (s : State) : (paceStages p s).ci = (given p s).ci
    ∧ (paceStages p s).pu.demand = (given p s).pu.demand ∧ (paceStages p s).tm = (given p s).tm := by
  simp [paceStages_eq, publish]

/-- After the sample the completion goes on without stops. -/
theorem course_after (p : Plan) (s : State) : Course false (paceStages p (retractCheck p s)) (computation p s) := by
  rw [computation_eq]
  exact (Course.refl.checkSample p _).startCondition p

theorem computation_sample (p : Plan) (s : State) :
    (computation p s).pu.sample = some (sampled p (retractCheck p s)) := by
  rw [(course_after p s).sample, paceStages_pu]

theorem computation_encoderFault (p : Plan) (s : State) :
    hasFlag (computation p s).tm.flags .encoderFault = hasFlag s.tm.flags .encoderFault := by
  have hgiven : (given p (retractCheck p s)).tm = (stood p (retractCheck p s)).tm := by simp [given]
  rw [(course_after p s).encoderFault, (plain_paceStages _ _).2.2, hgiven, (course_computation p s).encoderFault]

/-! ### The record and the demand of a read (R51, R111, R139) -/

/-- The record stands, or the node has halted. -/
def StandsOrHalted (r : Option HaltRecord) (s : State) : Prop :=
  s.tm.record = r ∨ (s.tm.record.isSome = true ∧ s.phc.phase = .halted)

theorem standsOrHalted_trip {r : Option HaltRecord} (k : Cause) (d : Option TravelSide) (n : Option NodeNum)
    (h : StandsOrHalted r s) : StandsOrHalted r (trip k d n s) := by
  rcases trip_cases k d n s with ⟨-, e⟩ | ⟨-, -, e⟩ | ⟨-, -, e⟩ <;> rw [e]
  · exact h
  · exact h
  · obtain ⟨hrec, hph, -⟩ := applyHalt_spec (localRecord k n (setFlag k d s))
      (compose (haltFrame k n (setFlag k d s)) (setFlag k d s))
    exact .inr ⟨by rw [localHalt, hrec]; rfl, hph⟩

theorem standsOrHalted_moves {c : Instr} (r : Option HaltRecord) : Moves c (StandsOrHalted r) where
  aside h hs := by unfold StandsOrHalted at *; rwa [h.record, h.phase]
  trip k d n _ := standsOrHalted_trip k d n
  safe hs := by simpa [StandsOrHalted] using hs
  drive _ hs := hs

/-- A completed read takes no clear, no plan and no reset: the record stands unless the node halts. -/
theorem standsOrHalted_loose {c : Instr} (hread : IsRead c) (r : Option HaltRecord) :
    Loose c (StandsOrHalted r) where
  aside := (standsOrHalted_moves r).aside
  trip := (standsOrHalted_moves (c := c) r).trip
  remote _ _ _ _ _ _ _ := by
    refine .inr ⟨?_, ?_⟩
    · rw [remoteHalt, (applyHalt_spec _ _).1]; rfl
    · rw [remoteHalt, (applyHalt_spec _ _).2.1]
  clear _ hc _ := by obtain ⟨a, w, b, f, rfl⟩ := hread; cases hc
  demand _ _ _ _ _ _ _ hs := hs
  adopt _ _ hc _ _ _ := by obtain ⟨a, w, b, f, rfl⟩ := hread; cases hc
  reset hc _ := by obtain ⟨a, w, b, f, rfl⟩ := hread; cases hc
  session _ _ _ hs := hs
  phase new _ hnot _ _ _ hs :=
    (standsOrHalted_moves (c := c) r).entered new (fun _ => hs) <| .inl <| by
      rcases hs with hs | ⟨-, hhalted⟩
      · simpa using hs
      · exact absurd hhalted hnot

theorem standsOrHalted_stood {c : Instr} (hread : IsRead c) {r : Option HaltRecord} (hp : s.ps.plan = some p)
    (hs : StandsOrHalted r s) : StandsOrHalted r (stood p (retractCheck p s)) := by
  have hkept := (standsOrHalted_loose hread r).kept
  have h1 : StandsOrHalted r (judged p (retractCheck p s)) := hkept.judgePace hread p _ (hkept.retract p hp hs)
  unfold stood
  split
  · next ha => exact hkept.arrive (by simp [judged, hp]) (hasArrived_pacing ha) h1
  · exact h1

theorem standsOrHalted_readTaken {c : Instr} (hread : IsRead c) {r : Option HaltRecord} (hp : s.ps.plan = some p)
    (valid : Bool) (w : Word) (hs : StandsOrHalted r s) : StandsOrHalted r (readTaken p valid w s) := by
  have hkept := (standsOrHalted_loose hread r).kept
  have h1 := hkept.aside (takeRead_sidestep hread valid w p.datum s) hs
  unfold readTaken
  dsimp only
  split
  · exact hkept.noteValidRead (by simp [hp]) h1
  · split
    · exact standsOrHalted_trip _ _ _ h1
    · exact h1

theorem demandOf_halted (h : s.phc.phase = .halted) (p : Plan) (v e : Nat) : demandOf p s v e = (0, false) := by
  simp [demandOf, h]

theorem words_readTaken (p : Plan) (valid : Bool) (w : Word) (s : State) :
    WordsWait s.ci (readTaken p valid w s).ci := by
  by_cases hquiet : valid = true ∨ s.ci.invalidRun ≠ 1
  · exact (course_readTaken hquiet p w).words
  · obtain ⟨hvalid, hrun⟩ := not_or.1 hquiet
    obtain rfl : valid = false := by simpa using hvalid
    have hplain := takeRead_plain false w p.datum s
    rw [readTaken_encoderFault (not_not.1 hrun)]
    exact (WordsWait.of_eq hplain.transfer hplain.nextWord hplain.lastWord).trans (wordsWait_trip _ _ _ _)

theorem demandWord_even (w : Word) : EvenWord (demandWord w) := evenParity_even w

end Sys2Proof.Machine

open Sys2Proof Sys2Proof.Machine Sys2Proof.Safety

/-- Settles O28: what a read leaves in the column, ENCODER_FAULT at the second invalid one, and the read that is not
handed on. -/
theorem readCompletes : Obligations.ReadCompletes := by
  refine ⟨fun s p a w b f hp hread => ?_, fun s a w b f hp hread => ?_⟩
  · let valid := readValid a w b f
    let u := readTaken p valid w s
    have hmeasured : measured (computation p u).ci = measured (takeRead valid w p.datum s.ci) :=
      (computation_measured ..).trans (readTaken_measured ..)
    have hci := eq_of_measured hmeasured
    refine ⟨computation p u, exec_positionReadComplete hp hread a w b f, ?_, fun ha hb hf => ?_,
      fun hbad => ?_, ?_, ?_, ?_, ?_, ?_, fun hinvalid hrun => ?_, fun hquiet => ?_⟩
    · rw [hci]; unfold takeRead; split <;> rfl
    · have hvalid : valid = true := readValid_iff.2 ⟨ha, hb, hf⟩
      rw [hci, hvalid]
      simp [takeRead, heightOf, clampHeight_toNat]
    · have hvalid : valid = false := by
        cases hv : valid with
        | false => rfl
        | true => obtain ⟨h1, h2, h3⟩ := readValid_iff.1 hv; simp [h1, h2, h3] at hbad
      rw [hci, hvalid]
      exact ⟨rfl, rfl⟩
    · rw [hci]; unfold takeRead; split <;> rfl
    · rw [hci]; unfold takeRead; split <;> rfl
    · rw [hci]; unfold takeRead; split <;> rfl
    · rw [hci]; unfold takeRead; split <;> rfl
    · simp [u]
    · let v := s.withCi (takeRead false w p.datum s.ci)
      have hu : u = trip .encoderFault none none v := by
        simp only [u, valid, hinvalid]
        exact readTaken_encoderFault hrun p w
      have hpv : v.ps.plan.isSome = true := by simp [v, hp]
      refine ⟨?_, fun hn => ?_⟩
      · rw [computation_encoderFault, hu]; exact trip_hasFlag _ _ _ hpv
      · have halike : HaltsAlike s v := ⟨rfl, rfl, rfl, rfl, rfl, rfl, rfl, rfl, rfl⟩
        have ⟨hhalt, _⟩ := halike.trip_record hp hn rfl rfl .encoderFault none
        rw [← hu] at hhalt
        obtain ⟨hrec, hph, -, hdrive, hbrake, -, -, hsession, hpress, -⟩ := hhalt
        obtain ⟨fl, d, htm, -, hphc, hsu, hci', hdemand, hsample⟩ := computation_halted hph (by rw [hrec]; rfl) p
        refine ⟨by rw [htm]; exact hrec, by rw [hphc]; exact hph, by rw [hsu]; exact hsession, ?_, ?_, ?_, hdemand,
          hsample⟩
        · unfold PressSpent at hpress ⊢
          rwa [hsu]
        · rw [hci']; rcases sendWord_cases 0 u.ci with ⟨-, e⟩ | ⟨-, e⟩ <;> rw [e] <;> exact hdrive
        · rw [hci']; rcases sendWord_cases 0 u.ci with ⟨-, e⟩ | ⟨-, e⟩ <;> rw [e] <;> exact hbrake
    · rw [computation_encoderFault]
      exact (course_readTaken hquiet p w).encoderFault
  · have hexec : exec (.positionReadComplete a w b f) s = .next (readKept (readValid a w b f) w s) := by
      simp [exec, execPositionReadComplete, readComplete, hp, hread]
    refine ⟨_, hexec, ?_, ?_, fun hv => ⟨Config.datumWithoutPlan s.freeCount, ?_⟩, fun hv => ?_, ?_⟩ <;>
      simp only [readKept, hp]
    · unfold takeRead; split <;> rfl
    · simp [takeRead, hv]
    · simp [takeRead, hv]
    · exact ⟨rfl, rfl, rfl, rfl, rfl, rfl, rfl, rfl⟩

/-- Settles O35: the word in transfer goes out, and a read sends the demand that the node is left with. -/
theorem transferCompletes : Obligations.TransferCompletes := by
  refine ⟨fun s d hd => ?_, fun s p a w b f hp hread hordered => ?_⟩
  · simp only [exec, execDemandTransferComplete, hd]
    rfl
  · have hisRead : IsRead (.positionReadComplete a w b f) := ⟨a, w, b, f, rfl⟩
    let u := readTaken p (readValid a w b f) w s
    let v := stood p (retractCheck p u)
    let g := given p (retractCheck p u)
    let t := computation p u
    have hpu : u.ps.plan = some p := by simp [u, hp]
    have hstands : StandsOrHalted s.tm.record v :=
      standsOrHalted_stood hisRead hpu (standsOrHalted_readTaken hisRead hp _ w (.inl rfl))
    have hwords : WordsWait s.ci v.ci := (words_readTaken p _ w s).trans (course_computation p u).words
    have hgrecord : g.tm.record = v.tm.record := by simp [g, given, v]
    have hgdemand : g.pu.demand = (sampled p (retractCheck p u)).demand := rfl
    have hsent : DemandSent g :=
      ⟨(hwords.trans (wordsWait_sendWord _ _)).ordered hordered, lastSent_sendWord _ (hwords.ordered hordered)⟩
    have ⟨hci, hdemand, htm⟩ := plain_paceStages p (retractCheck p u)
    have hafter := course_after p u
    have ⟨htordered, htsent⟩ : DemandSent t := by
      refine hafter.demandSent ?_
      unfold DemandSent LastSent at hsent ⊢
      rwa [hci, hdemand]
    have hall : WordsWait s.ci t.ci :=
      (hwords.trans (wordsWait_sendWord _ _)).trans (hci ▸ hafter.words)
    have hrecords : (t.tm.record = g.tm.record ∧ t.pu.demand = g.pu.demand)
        ∨ (g.tm.record = none ∧ t.tm.record.isSome = true ∧ t.pu.demand = 0) := by
      have := hafter.demand
      rwa [htm, hdemand] at this
    refine ⟨t, sampled p (retractCheck p u), demandWord (BitVec.ofInt 16 t.pu.demand),
      exec_positionReadComplete hp hread a w b f, computation_sample p u, htsent, fun d' hd' => ?_, demandWord_even _,
      rfl, fun hsame => ?_, fun hchanged => ?_, hall.lastWord⟩
    · have hwaits : g.ci.nextWord.isSome = true := by
        rcases sendWord_cases (BitVec.ofInt 16 g.pu.demand) v.ci with ⟨ht, -⟩ | ⟨-, e⟩
        · exact absurd ((hwords.transfer d' hd').symm.trans ht) (by simp)
        · exact (congrArg (fun c : ColumnInterface => c.nextWord.isSome) e : g.ci.nextWord.isSome = true)
      have hnext := hafter.words.waits (hci ▸ hwaits)
      refine ⟨hall.transfer d' hd', htsent.resolve_right fun ⟨hnone, _⟩ => ?_⟩
      rw [hnone] at hnext
      cases hnext
    · rcases hrecords with ⟨-, e⟩ | ⟨hnone, hsome, -⟩
      · exact e
      · rw [hgrecord] at hnone
        rcases hstands with h | ⟨h, -⟩
        · rw [hsame, ← h, hnone] at hsome; cases hsome
        · rw [hnone] at h; cases h
    · rcases hrecords with ⟨e, hd⟩ | ⟨-, -, hd⟩
      · rcases hstands with h | ⟨-, hhalted⟩
        · exact absurd (e.trans (hgrecord.trans h)) hchanged
        · rw [hd, hgdemand, sampled_demand, demandOf_halted hhalted]
      · exact hd

end

section
/-! PROOFS. The laws of the demand, the stages of a computation in LIFT and LOWER, and arrival (R70, R101 to R116). -/

namespace Sys2Proof.Machine

open Sys2Proof Sys2Proof.Safety

variable {s t : State} {p : Plan}

/-! ### Arrival (R70, R108) -/

theorem judged_phc (p : Plan) (s : State) : (judged p s).phc = s.phc := by simp [judged]

theorem judged_su (p : Plan) (s : State) : (judged p s).su = s.su := by simp [judged]

theorem judged_ci (p : Plan) (s : State) : (judged p s).ci = s.ci := by simp [judged]

/-- Stage 5 does not bear on whether the target is reached (R108). -/
theorem hasArrived_judged (p : Plan) (s : State) (w : Word) : hasArrived p (judged p s) w = hasArrived p s w := by
  simp [hasArrived, target, judged_phc, judged_su]

/-- Stage 5 does not bear on the target and its slow zone (R107). -/
theorem setSpeed_eq (p : Plan) (s : State) :
    setSpeed p s = baseSpeed p s (ownLift s.ci) (setStep (lineView p s) (judged p s).pu.step) := by
  simp only [setSpeed, baseSpeed, target, judged_phc, judged_su]
  rfl

theorem stood_goes (h : hasArrived p s (ownLift s.ci) = false) : stood p s = judged p s := by
  have : hasArrived p (judged p s) (lineView p s).lift = false := (hasArrived_judged p s _).trans h
  simp [stood, this]

/-- The column stopped at its target (R51, R70, R108). -/
def arrivedAt (p : Plan) (s : State) : State := safeDrive (enterPhase .hold (setLastStop .arrived (judged p s)))

theorem stood_arrives (hq : NothingTrips s) (h : hasArrived p s (ownLift s.ci) = true) :
    stood p s = arrivedAt p s := by
  have harrived : hasArrived p (judged p s) (lineView p s).lift = true := (hasArrived_judged p s _).trans h
  have hph := hasArrived_pacing h
  let v := setLastStop .arrived (judged p s)
  have hv : v.phc.phase = s.phc.phase := by simp [v, setLastStop, judged_phc]
  have hqv : NothingTrips v := nothingTrips_of_measured (s := s) (by simp [v, setLastStop, judged_ci]) hq
  have hmoving : isMoving v.phc.phase = true := by rw [hv]; rcases hph with e | e <;> rw [e] <;> rfl
  have hchange : changePhase .hold v = safeDrive (enterPhase .hold v) := by
    rw [changePhase_quiet hqv rfl (by rw [hv]; rcases hph with e | e <;> rw [e] <;> decide)]
    exact columnAt_stops _ rfl hmoving
  simp only [stood, harrived, if_true]
  exact hchange

theorem heldValue_sendWord (w : Word) {ci : ColumnInterface} (h : ci.transfer.isSome = true) :
    heldValue (sendWord w ci) = w := by
  rcases sendWord_cases w ci with ⟨ht, -⟩ | ⟨-, e⟩
  · simp [ht] at h
  · rw [e]; rfl

theorem safeDrive_transfer (s : State) : (safeDrive s).ci.transfer.isSome = true := by
  have e : (safeDrive s).ci = sendWord 0 (setDrive false s.ci) := rfl
  rw [e]
  rcases sendWord_cases 0 (setDrive false s.ci) with ⟨-, e⟩ | ⟨h, e⟩ <;> rw [e]
  · rfl
  · exact h

/-- The REPORT of a computation carries the phase of its control sample (R116, R117). -/
theorem paceStages_report (p : Plan) (s : State) :
    ((paceStages p s).pt.entry p.node).report.map (·.phase) = some (stood p s).phc.phase := by
  simp [paceStages_eq, publish, composeReport, reportedOf, reportBody, given]

end Sys2Proof.Machine

open Sys2Proof Sys2Proof.Machine Sys2Proof.Safety

/-- Settles O31: the arrival stops the column before the demand is given. -/
theorem arrivalEndsMove : Obligations.ArrivalEndsMove := by
  intro s p _ hq _ harrived
  have hstood := stood_arrives hq harrived
  have hphase : (stood p s).phc.phase = .hold := by simp [hstood, arrivedAt]
  have hgiven : given p s = giveDemand (0, false) (stood p s) := by
    rw [given, demandOf_rest (by rw [hphase]; rfl)]
  have hdemand : (sampled p s).demand = 0 := by rw [sampled_demand, demandOf_rest (by rw [hphase]; rfl)]
  have hci : (paceStages p s).ci = sendWord 0 (arrivedAt p s).ci := by
    rw [(plain_paceStages p s).1, hgiven, hstood]; rfl
  refine ⟨?_, ?_, ?_, ?_, ?_, ?_, ?_, ?_⟩
  · simp [paceStages_eq, hgiven, hphase]
  · simp [paceStages_eq, hgiven, hstood, arrivedAt, setLastStop]
  · rw [(plain_paceStages p s).2.1, hgiven]; rfl
  · rw [hci]
    rcases sendWord_cases 0 (arrivedAt p s).ci with ⟨-, e⟩ | ⟨-, e⟩ <;> rw [e] <;> simp [arrivedAt]
  · rw [paceStages_pu]
    simp [sampled_phase, hphase, hdemand]
  · rw [paceStages_report, hphase]
  · simp [paceStages_eq, hgiven, hstood, arrivedAt, setLastStop, judged_su]
  · rw [hci]; exact heldValue_sendWord 0 (safeDrive_transfer _)

end

section
/-! PROOFS. The demand of a computation and its stages in LIFT and LOWER (R101 to R112). -/

namespace Sys2Proof.Machine

open Sys2Proof Sys2Proof.Safety

variable {s t u : State} {p : Plan}

/-! ### The lifting set (R102, R104, R106) -/

theorem runningReport_iff {e : PeerEntry} {r : Reported} :
    runningReport e = some r ↔ e.state = .live ∧ e.report = some r ∧ (r.halt = none ∨ e.stale = true) := by
  unfold runningReport seenHalted liveReport
  by_cases hl : e.state = .live
  · cases hr : e.report with
    | none => simp [hl]
    | some r' =>
      cases hh : r'.halt <;> cases hs : e.stale <;> simp [hl, hh] <;> rintro rfl <;> simp [hh]
  · simp [hl]

theorem mem_matchingPeers {own : NodeNum} {pt : PeerTable} {k : Token} {ph : Phase} {q : NodeNum × Reported} :
    q ∈ matchingPeers own pt k ph ↔ q.1 ≠ own ∧ Follows (pt.entry q.1) k q.2 ∧ q.2.phase = ph := by
  unfold matchingPeers
  rw [List.mem_filterMap]
  constructor
  · rintro ⟨j, -, h⟩
    split at h
    · cases h
    · next hown =>
      split at h
      · next r hr =>
        split at h
        · next hmatch =>
          obtain rfl := Option.some.inj h
          obtain ⟨hlive, hreport, hhalt⟩ := runningReport_iff.1 hr
          exact ⟨hown, ⟨hlive, hreport, hhalt, hmatch.1⟩, hmatch.2⟩
        · cases h
      · cases h
  · rintro ⟨hown, ⟨hlive, hreport, hhalt, htoken⟩, hphase⟩
    refine ⟨q.1, mem_allNodes q.1, ?_⟩
    simp [hown, runningReport_iff.2 ⟨hlive, hreport, hhalt⟩, htoken, hphase]

theorem pairwise_matchingPeers (own : NodeNum) (pt : PeerTable) (k : Token) (ph : Phase) :
    ((matchingPeers own pt k ph).map (·.1)).Pairwise (· < ·) := by
  have hfst : ∀ j q, (if j = own then none else match runningReport (pt.entry j) with
      | some r => if r.token = some k ∧ r.phase = ph then some (j, r) else none
      | none => none) = some q → q.1 = j := by
    intro j q h
    split at h
    · cases h
    · split at h
      · split at h
        · obtain rfl := Option.some.inj h; rfl
        · cases h
      · cases h
  unfold matchingPeers
  rw [List.pairwise_map, List.pairwise_filterMap]
  refine (List.pairwise_lt_finRange 64).imp fun {i j} hij q hq q' hq' => ?_
  rw [hfst i q hq, hfst j q' hq']
  exact hij

/-- The entries of a list of peers hold the reports that came with them. -/
theorem filterMap_reports {pt : PeerTable} {l : List (NodeNum × Reported)}
    (h : ∀ q ∈ l, (pt.entry q.1).report = some q.2) :
    (l.map (·.1)).filterMap (fun j => (pt.entry j).report) = l.map (·.2) := by
  induction l with
  | nil => rfl
  | cons q l ih =>
    have hrest := ih fun q' hq' => h q' (List.mem_cons_of_mem q hq')
    rw [List.map_cons, List.filterMap_cons, h q List.mem_cons_self, hrest]
    rfl

theorem liftingPeers_reports {q : NodeNum × Reported} (h : q ∈ liftingPeers p s) :
    q.1 ≠ p.node ∧ (s.pt.entry q.1).report = some q.2 := by
  unfold liftingPeers at h
  split at h
  · split at h
    · obtain ⟨hown, ⟨-, hreport, -⟩, -⟩ := mem_matchingPeers.1 h
      exact ⟨hown, hreport⟩
    · cases h
  · cases h

theorem liftingPeers_running {ss : Session} (hss : s.su.session = some ss) (hph : isPacing s.phc.phase = true) :
    liftingPeers p s = matchingPeers p.node s.pt ss.token s.phc.phase := by
  simp [liftingPeers, hss, hph]

theorem foldl_min_le {α : Type} [LinearOrder α] {a x : α} {l : List α} (h : x ∈ a :: l) : l.foldl min a ≤ x :=
  List.min_le_of_mem h

theorem le_foldl_max {α : Type} [LinearOrder α] {a x : α} {l : List α} (h : x ∈ a :: l) : x ≤ l.foldl max a :=
  List.le_max_of_mem h

/-! ### Speeds and the laws of the demand (R109, R111, R112) -/

theorem speeds_monotone (h : PlanInRange p) : Monotone (fun k : Step => p.speeds[k]) := by
  obtain ⟨-, -, -, -, -, -, hstep, -⟩ := h
  exact Fin.monotone_iff_le_succ.mpr hstep

theorem creep_le_speed (h : PlanInRange p) (k : Step) : p.creep ≤ p.speeds[k] := by
  have ⟨_, _, _, _, _, _, _, _, _, _, _, hcreep, _⟩ := h
  exact hcreep.trans (speeds_monotone h (Fin.zero_le k))

/-- The magnitude that the lead gives is within the speed of every step not below the set step (R109, R111). -/
theorem throttle_le_speed (h : PlanInRange p) {v : Nat} {k k' : Step} (hv : v ≤ speedOf p k) (hk : k ≤ k')
    (e : Nat) : throttle p v e ≤ p.speeds[k'] :=
  (throttle_le_max p v e).trans (max_le (hv.trans (speeds_monotone h hk)) (creep_le_speed h k'))

/-- The laws of the demand by phase (R109 to R112). -/
theorem demandOf_laws (h : PlanInRange p) (s : State) {v : Nat} {k : Step} (hv : v ≤ speedOf p k) (e : Nat) :
    (demandOf p s v e).1.natAbs ≤ p.speeds[7]
      ∧ ((s.phc.phase = .lift ∨ s.phc.phase = .lower) → ∀ k', k ≤ k' →
          (demandOf p s v e).1.natAbs ≤ p.speeds[k'])
      ∧ ((s.phc.phase = .lift ∨ s.phc.phase = .lower) → p.window ≤ e → (demandOf p s v e).1 = 0)
      ∧ ((s.phc.phase = .lift ∨ s.phc.phase = .approach) → 0 ≤ (demandOf p s v e).1)
      ∧ ((s.phc.phase = .lower ∨ s.phc.phase = .retract) → (demandOf p s v e).1 ≤ 0) := by
  have hthrottle (k' : Step) (hk : k ≤ k') := throttle_le_speed h hv hk e
  have h7 : throttle p v e ≤ p.speeds[7] := hthrottle 7 (Fin.le_last k)
  have hwindow : p.window ≤ e → throttle p v e = 0 := fun hw => if_pos hw
  obtain ⟨-, -, -, -, -, -, -, -, -, -, -, -, happroach, hretract, -⟩ := h
  unfold demandOf
  cases hph : s.phc.phase with
  | lift =>
    dsimp only
    split
    · simp
    · exact ⟨by simpa using h7, fun _ k' hk => by simpa using hthrottle k' hk, fun _ hw => by simp [hwindow hw],
        by simp, by simp⟩
  | lower =>
    dsimp only
    split
    · simp
    · exact ⟨by simpa using h7, fun _ k' hk => by simpa using hthrottle k' hk, fun _ hw => by simp [hwindow hw],
        by simp, by simp⟩
  | approach =>
    dsimp only
    split
    · simp
    · exact ⟨by simpa using happroach, by simp, by simp, by simp, by simp⟩
  | retract => exact ⟨by simpa using hretract, by simp, by simp, by simp, by simp⟩
  | unplanned | starting | idle | contact | hold | halted => simp

/-! ### What stands after the sample (R143) -/

/-- What a computation has left in the Pace Unit stands, and its sync state with the phase. -/
structure PaceStands (s t : State) : Prop where
  step : t.pu.step = s.pu.step
  windowSum : t.pu.windowSum = s.pu.windowSum
  windowCount : t.pu.windowCount = s.pu.windowCount
  lastWindow : t.pu.lastWindow = s.pu.lastWindow
  lifting : t.pu.lifting = s.pu.lifting
  clamped : t.pu.clamped = s.pu.clamped
  session : t.su.session = s.su.session ∨ t.su.session = none
  sync : (t.phc.phase = s.phc.phase ∧ t.pu.sync = s.pu.sync ∧ t.pu.lockRun = s.pu.lockRun) ∨ t.phc.phase = .halted

theorem PaceStands.refl (s : State) : PaceStands s s :=
  ⟨rfl, rfl, rfl, rfl, rfl, rfl, .inl rfl, .inl ⟨rfl, rfl, rfl⟩⟩

theorem PaceStands.trans (h : PaceStands s t) (h' : PaceStands t u) : PaceStands s u where
  step := h'.step.trans h.step
  windowSum := h'.windowSum.trans h.windowSum
  windowCount := h'.windowCount.trans h.windowCount
  lastWindow := h'.lastWindow.trans h.lastWindow
  lifting := h'.lifting.trans h.lifting
  clamped := h'.clamped.trans h.clamped
  session := by
    rcases h'.session with e | e
    · rw [e]; exact h.session
    · exact .inr e
  sync := by
    rcases h'.sync with ⟨h1, h2, h3⟩ | hhalted
    · rw [h1, h2, h3]; exact h.sync
    · exact .inr hhalted

theorem paceAt_unpaced {new : Phase} (hnew : isPacing new = false) (old : Phase) (pu : PaceUnit) :
    (paceAt old new pu).step = pu.step ∧ (paceAt old new pu).windowSum = pu.windowSum
      ∧ (paceAt old new pu).windowCount = pu.windowCount ∧ (paceAt old new pu).lastWindow = pu.lastWindow
      ∧ (paceAt old new pu).lifting = pu.lifting ∧ (paceAt old new pu).clamped = pu.clamped := by
  cases ho : isPacing old <;> simp [paceAt, ho, hnew]

theorem haltOrder_pu (s : State) : (haltOrder s).pu = { s.pu with demand := 0 }
    ∨ (haltOrder s).pu = paceAt s.phc.phase .halted { s.pu with demand := 0 } := by
  unfold haltOrder
  dsimp only
  split
  · exact .inl rfl
  · refine .inr ?_
    rw [foldl_setFlag_pu, enterPhase_pu]
    rfl

theorem trip_paceStands (k : Cause) (d : Option TravelSide) (n : Option NodeNum) (s : State) :
    PaceStands s (trip k d n s) := by
  rcases trip_cases k d n s with ⟨-, e⟩ | ⟨-, -, e⟩ | ⟨-, -, e⟩ <;> rw [e]
  · exact .refl s
  · exact ⟨rfl, rfl, rfl, rfl, rfl, rfl, .inl rfl, .inl ⟨rfl, rfl, rfl⟩⟩
  · let v := (compose (haltFrame k n (setFlag k d s)) (setFlag k d s)).withTm
      { (compose (haltFrame k n (setFlag k d s)) (setFlag k d s)).tm with
        record := some (localRecord k n (setFlag k d s)) }
    have hpu : (localHalt k n (setFlag k d s)).pu = (haltOrder v).pu := by simp [localHalt, applyHalt, v]
    have hv : v.pu = s.pu := by simp [v, setFlag]
    obtain ⟨-, hph, -, -, -, hnone⟩ := applyHalt_spec (localRecord k n (setFlag k d s))
      (compose (haltFrame k n (setFlag k d s)) (setFlag k d s))
    have hsession := Or.inr (a := (localHalt k n (setFlag k d s)).su.session = s.su.session) hnone
    rcases haltOrder_pu v with e | e <;> rw [hv] at e
    · exact ⟨by rw [hpu, e], by rw [hpu, e], by rw [hpu, e], by rw [hpu, e], by rw [hpu, e], by rw [hpu, e],
        hsession, .inr hph⟩
    · obtain ⟨h1, h2, h3, h4, h5, h6⟩ := paceAt_unpaced (new := .halted) rfl v.phc.phase { s.pu with demand := 0 }
      exact ⟨by rw [hpu, e, h1], by rw [hpu, e, h2], by rw [hpu, e, h3], by rw [hpu, e, h4], by rw [hpu, e, h5],
        by rw [hpu, e, h6], hsession, .inr hph⟩

theorem tripChecks_paceStands (xs : List (Cause × Option NodeNum)) (s : State) : PaceStands s (tripChecks xs s) := by
  induction xs generalizing s with
  | nil => exact .refl s
  | cons x xs ih => exact (trip_paceStands x.1 none x.2 s).trans (ih _)

theorem checkSample_paceStands (p : Plan) (c : ControlSample) (s : State) : PaceStands s (checkSample p c s) := by
  have hcounted : PaceStands s (stallCounted c s) :=
    ⟨rfl, rfl, rfl, rfl, rfl, rfl, .inl rfl, .inl ⟨rfl, rfl, rfl⟩⟩
  rw [checkSample_eq]
  exact hcounted.trans (tripChecks_paceStands _ _)

end Sys2Proof.Machine
end

section
/-! PROOFS. The demand of a read and the stages that lead to it in LIFT and LOWER (R70, R101 to R112). -/

namespace Sys2Proof.Machine

open Sys2Proof Sys2Proof.Safety

variable {s t u : State} {p : Plan}

/-! ### Where a change of phase lands (R137, R141) -/

/-- The phase is the one named, or the node has halted. -/
def Landed (ph : Phase) (s : State) : Prop := s.phc.phase = ph ∨ s.phc.phase = .halted

theorem landed_moves (c : Instr) (ph : Phase) : Moves c (Landed ph) where
  aside h hs := by unfold Landed at *; rwa [h.phase]
  trip {s} k d n _ hs := by
    rcases (trip_paceStands k d n s).sync with ⟨e, -⟩ | e
    · exact hs.imp e.trans e.trans
    · exact .inr e
  safe hs := by simpa [Landed] using hs
  drive _ hs := hs

theorem changePhase_lands (new : Phase) (s : State) : Landed new (changePhase new s) :=
  (landed_moves .reset new).entered new .inl (.inl (enterPhase_phase new s))

/-- Arrival leaves LIFT and LOWER (R70). -/
theorem stood_pacing (h : isPacing (stood p s).phc.phase = true) : stood p s = judged p s := by
  unfold stood at h ⊢
  split
  · next ha =>
    rw [if_pos ha] at h
    rcases changePhase_lands .hold (setLastStop .arrived (judged p s)) with e | e <;> rw [arrive, e] at h <;> cases h
  · rfl

/-! ### What a computation leaves (R115, R143) -/

theorem startCondition_settled (h : ∀ ss, s.su.session = some ss → ss.state ≠ .pending) (p : Plan) :
    startCondition p s = s := by
  rcases startCondition_cases p s with e | ⟨ss, hss, hpending, -⟩
  · exact e
  · exact absurd hpending (h ss hss)

/-- What a computation leaves of its stages, where it starts no move. -/
theorem computation_paceStands {ss : Session} (hss : s.su.session = some ss) (hrun : ss.state = .running)
    (hretract : s.phc.phase ≠ .retract) (hkept : (stood p s).su.session = s.su.session) :
    PaceStands (paceStages p s) (computation p s) := by
  have hstands := checkSample_paceStands p (sampled p s) (paceStages p s)
  have hsession : (paceStages p s).su.session = some ss := by
    simp [paceStages_eq, publish, given, hkept, hss]
  rw [computation_eq, retractCheck_away hretract, startCondition_settled]
  · exact hstands
  · rintro ss' hss'
    rcases hstands.session with e | e <;> rw [e] at hss'
    · rw [hsession] at hss'; cases hss'; rw [hrun]; simp
    · cases hss'

/-- What a computation leaves of its stages, where they end in LIFT or LOWER. -/
theorem computation_paced (h : isPacing (sampled p (retractCheck p s)).phase = true) :
    PaceStands (paceStages p (retractCheck p s)) (computation p s) := by
  let v := retractCheck p s
  have hstands := checkSample_paceStands p (sampled p v) (paceStages p v)
  have hph : (paceStages p v).phc.phase = (sampled p v).phase := by
    simp [paceStages_eq, publish, sampled, sampleOf]
  have haway : startCondition p (checkSample p (sampled p v) (paceStages p v)) =
      checkSample p (sampled p v) (paceStages p v) := by
    rcases hstands.sync with ⟨e, -⟩ | e
    · exact startCondition_away (e.trans hph) (fun e' => by rw [e'] at h; cases h)
        (fun e' => by rw [e'] at h; cases h) (fun e' => by rw [e'] at h; cases h) p
    · exact startCondition_away e (by simp) (by simp) (by simp) p
  rw [computation_eq, haway]
  exact hstands

@[simp] theorem readTaken_pt (p : Plan) (valid : Bool) (w : Word) (s : State) : (readTaken p valid w s).pt = s.pt := by
  unfold readTaken
  dsimp only
  split
  · simp
  · split <;> simp

/-- A quiet read is taken by the column alone (R43, R44, R64). -/
theorem readTaken_quiet {valid : Bool} (h : ReadQuiet s valid) (p : Plan) (w : Word) :
    readTaken p valid w s = s.withCi (takeRead valid w p.datum s.ci) := by
  obtain ⟨hdone, hrun⟩ := h
  cases valid with
  | true => simp [readTaken, noteValidRead, hdone]
  | false =>
    have hne : s.ci.invalidRun ≠ 1 := by simpa using hrun
    have : ¬ min 255 (s.ci.invalidRun + 1) = 2 := by omega
    simp [readTaken, takeRead, this]

/-- `u` is `s` with a height or an invalid read taken, and nothing else moved. -/
structure TakesRead (s u : State) : Prop where
  tm : u.tm = s.tm
  phc : u.phc = s.phc
  su : u.su = s.su
  pu : u.pu = s.pu
  pt : u.pt = s.pt
  ps : u.ps = s.ps
  levels : u.ci.levels = s.ci.levels
  drive : u.ci.driveEnable = s.ci.driveEnable
  contactHeight : u.ci.contactHeight = s.ci.contactHeight
  quiet : NothingTrips s → NothingTrips u
  height : s.ci.height.isSome = true → u.ci.height.isSome = true

theorem takesRead {valid : Bool} (h : ReadQuiet s valid) (p : Plan) (w : Word) :
    TakesRead s (readTaken p valid w s) := by
  rw [readTaken_quiet h]
  unfold takeRead
  split
  · exact ⟨rfl, rfl, rfl, rfl, rfl, rfl, rfl, rfl, rfl, id, fun _ => rfl⟩
  · exact ⟨rfl, rfl, rfl, rfl, rfl, rfl, rfl, rfl, rfl, id, id⟩

theorem TakesRead.notHalted (h : TakesRead s u) (hn : NotHalted s) : NotHalted u :=
  ⟨by rw [h.tm]; exact hn.1, by rw [h.phc]; exact hn.2⟩

/-! ### The stages in LIFT and LOWER (R101 to R110) -/

theorem clampLift_toInt (x : Int) : (clampLift x).toInt = max (-32768) (min 32767 x) := by
  unfold clampLift clampInt
  rw [BitVec.toInt_ofInt, Int.bmod_def]
  omega

theorem ownLift_of_heights {ci : ColumnInterface} {hc h : Word} (h1 : ci.contactHeight = some hc)
    (h2 : ci.height = some h) : (ownLift ci).toInt = max (-32768) (min 32767 ((h.toNat : Int) - hc.toNat)) := by
  simp [ownLift, h1, h2, clampLift_toInt]

theorem ownLift_of_none {ci : ColumnInterface} (h : ci.contactHeight = none ∨ ci.height = none) : ownLift ci = 0 := by
  unfold ownLift
  split
  · next h1 h2 => simp [h1, h2] at h
  · rfl

theorem mem_matchingPeers_fst {own j : NodeNum} {pt : PeerTable} {k : Token} {ph : Phase} :
    j ∈ (matchingPeers own pt k ph).map (·.1) ↔ j ≠ own ∧ ∃ r, Follows (pt.entry j) k r ∧ r.phase = ph := by
  rw [List.mem_map]
  constructor
  · rintro ⟨q, hq, rfl⟩
    obtain ⟨hown, hfollows, hphase⟩ := mem_matchingPeers.1 hq
    exact ⟨hown, q.2, hfollows, hphase⟩
  · rintro ⟨hown, r, hfollows, hphase⟩
    exact ⟨(j, r), mem_matchingPeers.2 ⟨hown, hfollows, hphase⟩, rfl⟩

/-- Lead and spread of the lifting set, in numbers (R103, R104). -/
theorem lineView_measures (hph : s.phc.phase = .lift ∨ s.phc.phase = .lower) :
    let v := lineView p s
    let ls := v.peers.map (fun q => q.2.lift.toInt)
    (v.spread : Int) = greatestOf v.lift.toInt ls - leastOf v.lift.toInt ls
      ∧ (v.lead : Int) = (if s.phc.phase = .lift then v.lift.toInt - leastOf v.lift.toInt ls
          else greatestOf v.lift.toInt ls - v.lift.toInt) := by
  intro v ls
  have hleast : leastOf v.lift.toInt ls ≤ v.lift.toInt := foldl_min_le List.mem_cons_self
  have hgreatest : v.lift.toInt ≤ greatestOf v.lift.toInt ls := le_foldl_max List.mem_cons_self
  have hspread : v.spread = (greatestOf v.lift.toInt ls - leastOf v.lift.toInt ls).toNat := rfl
  refine ⟨by rw [hspread]; omega, ?_⟩
  rcases hph with e | e
  · have hlead : v.lead = (v.lift.toInt - leastOf v.lift.toInt ls).toNat := by simp [v, ls, lineView, e]
    rw [if_pos e, hlead]; omega
  · have hlead : v.lead = (greatestOf v.lift.toInt ls - v.lift.toInt).toNat := by simp [v, ls, lineView, e]
    rw [if_neg (by rw [e]; simp), hlead]; omega

theorem selectStep_withSync (p : Plan) (sp load : Nat) (lk : Bool) (pu : PaceUnit) (y : SyncState) (n : Nat) :
    selectStep p sp load lk { pu with sync := y, lockRun := n } =
      { selectStep p sp load lk pu with sync := y, lockRun := n } := by
  unfold selectStep
  dsimp only
  split
  · rfl
  · split <;> rfl

/-- What stage 5 leaves in the Pace Unit: the lock monitor's state beside the selector's step and window (R105). -/
theorem judged_pu (hph : isPacing s.phc.phase = true) :
    let v := lineView p s
    let lock := lockStep p.window v.lead s.pu.sync s.pu.lockRun
    (judged p s).pu = { selectStep p v.spread (loadNumber s.ci) (lock.1 == .lock && peersLocked v) s.pu with
      sync := lock.1, lockRun := lock.2 } := by
  simp only [judged, judgePace, hph, if_true, latchWhen_pu, State.withPu_pu, paceJudged, selectStep_withSync]

/-- The target height over contact of a preset; preset 0 has none (R107). -/
def targetOf (p : Plan) (q : Preset) : Option Word := if q = 0 then none else p.presets[q.val - 1]?

/-- How far a lift is from a target, in the direction of the phase (R107, R108). -/
def remaining (ph : Phase) (lift x : Word) : Int :=
  if ph = .lift then x.toInt - lift.toInt else lift.toInt - x.toInt

theorem target_eq {ss : Session} (hss : s.su.session = some ss) (p : Plan) :
    target p s = (targetOf p ss.preset).map (·.toInt) := by
  unfold target targetOf
  rw [hss]
  by_cases hq : ss.preset = 0
  · simp [hq]
  · have hpos : 1 ≤ ss.preset.val := Nat.one_le_iff_ne_zero.2 fun e => hq (Fin.ext e)
    simp only [hpos, hq, dite_true, if_false]
    rw [Vector.getElem?_eq_getElem (by omega)]
    rfl

theorem hasArrived_eq {ss : Session} (hss : s.su.session = some ss)
    (hph : s.phc.phase = .lift ∨ s.phc.phase = .lower) (p : Plan) (w : Word) :
    hasArrived p s w = (targetOf p ss.preset).any fun x => remaining s.phc.phase w x ≤ 0 := by
  unfold hasArrived
  rw [target_eq hss]
  cases targetOf p ss.preset with
  | none => rfl
  | some x => rcases hph with e | e <;> simp [e, remaining]

theorem baseSpeed_eq {ss : Session} (hss : s.su.session = some ss) (p : Plan) (w : Word) (k : Step) :
    baseSpeed p s w k =
      if ((targetOf p ss.preset).any fun x => remaining s.phc.phase w x ≤ p.slowZone) = true then
        min p.speeds[k] p.speeds[0]
      else p.speeds[k] := by
  unfold baseSpeed
  rw [target_eq hss]
  cases targetOf p ss.preset with
  | none => rfl
  | some x => by_cases e : s.phc.phase = .lift <;> simp [e, remaining, speedOf]

/-- The column stands at the end of its travel in the direction of the phase (R110). -/
def standsAt (p : Plan) (ph : Phase) (h : Option Word) : Bool :=
  if ph = .lift then h.any fun h => p.hi - 1 ≤ h.toNat else h.any fun h => h.toNat ≤ p.lo

theorem demandOf_paced (hph : s.phc.phase = .lift ∨ s.phc.phase = .lower) (p : Plan) (v e : Nat) :
    demandOf p s v e =
      (if standsAt p s.phc.phase s.ci.height = true then 0
        else if s.phc.phase = .lift then (throttle p v e : Int) else -(throttle p v e : Int),
      standsAt p s.phc.phase s.ci.height) := by
  rcases hph with hph | hph <;> cases hh : s.ci.height with
  | none => simp [demandOf, hph, standsAt, atTop, atBottom, hh]
  | some h => simp only [demandOf, hph, standsAt, atTop, atBottom, hh]; simp; split <;> simp_all

/-- Arrival leaves the step, the window and the session as stage 5 left them (R70, R108). -/
theorem stood_kept (hq : NothingTrips s) (p : Plan) :
    (stood p s).pu.step = (judged p s).pu.step ∧ (stood p s).pu.windowSum = (judged p s).pu.windowSum
      ∧ (stood p s).pu.windowCount = (judged p s).pu.windowCount
      ∧ (stood p s).pu.lastWindow = (judged p s).pu.lastWindow ∧ (stood p s).su.session = s.su.session := by
  cases harrived : hasArrived p s (ownLift s.ci) with
  | false => simp [stood_goes harrived, judged_su]
  | true =>
    have hpu : (arrivedAt p s).pu =
        { paceAt (judged p s).phc.phase .hold (judged p s).pu with demand := 0 } := by
      show { (enterPhase .hold (setLastStop .arrived (judged p s))).pu with demand := 0 } = _
      rw [enterPhase_pu]
      rfl
    obtain ⟨h1, h2, h3, h4, -⟩ := paceAt_unpaced (new := .hold) rfl (judged p s).phc.phase (judged p s).pu
    rw [stood_arrives hq harrived, hpu]
    exact ⟨h1, h2, h3, h4, by simp [arrivedAt, setLastStop, judged_su]⟩

/-- Stages 8 to 11 in LIFT and LOWER: at the target the column rests, else the demand follows the lead (R108 to
R112). -/
theorem paced_outcome (hq : NothingTrips s) (hph : s.phc.phase = .lift ∨ s.phc.phase = .lower) (p : Plan) :
    (hasArrived p s (ownLift s.ci) = true →
      (sampled p s).phase = .hold ∧ (sampled p s).demand = 0 ∧ (given p s).pu.clamped = false)
    ∧ (hasArrived p s (ownLift s.ci) = false →
      (sampled p s).phase = s.phc.phase ∧ (given p s).pu.clamped = standsAt p s.phc.phase s.ci.height
      ∧ (sampled p s).demand =
        (if standsAt p s.phc.phase s.ci.height = true then 0
          else if s.phc.phase = .lift then (throttle p (setSpeed p s) (lineView p s).lead : Int)
          else -(throttle p (setSpeed p s) (lineView p s).lead : Int))) := by
  have hclamped : (given p s).pu.clamped = (demandOf p (stood p s) (setSpeed p s) (lineView p s).lead).2 := rfl
  rw [sampled_phase, sampled_demand, hclamped]
  refine ⟨fun harrived => ?_, fun hgoes => ?_⟩
  · have hhold : (stood p s).phc.phase = .hold := by simp [stood_arrives hq harrived, arrivedAt]
    rw [hhold, demandOf_rest (by rw [hhold]; rfl)]
    exact ⟨rfl, rfl, rfl⟩
  · rw [stood_goes hgoes, demandOf_paced (by rwa [judged_phc]), judged_phc, judged_ci]
    exact ⟨rfl, rfl, rfl⟩

/-- What a computation in LIFT or LOWER under a running session leaves of stage 5 (R105, R143). -/
theorem computation_judged {ss : Session} (hss : s.su.session = some ss) (hrun : ss.state = .running)
    (hq : NothingTrips s) (hph : s.phc.phase = .lift ∨ s.phc.phase = .lower) (p : Plan) :
    (computation p s).pu.step = (judged p s).pu.step
      ∧ (computation p s).pu.windowSum = (judged p s).pu.windowSum
      ∧ (computation p s).pu.windowCount = (judged p s).pu.windowCount
      ∧ (computation p s).pu.lastWindow = (judged p s).pu.lastWindow
      ∧ (computation p s).pu.lifting = p.node :: (lineView p s).peers.map (·.1)
      ∧ (computation p s).pu.clamped = (given p s).pu.clamped
      ∧ ((computation p s).phc.phase = s.phc.phase →
          (computation p s).pu.sync = (judged p s).pu.sync
            ∧ (computation p s).pu.lockRun = (judged p s).pu.lockRun) := by
  have hretract : s.phc.phase ≠ .retract := by rcases hph with e | e <;> rw [e] <;> simp
  have hpacing : isPacing s.phc.phase = true := by rcases hph with e | e <;> rw [e] <;> rfl
  obtain ⟨hstep, hsum, hcount, hlast, hsession⟩ := stood_kept hq p
  have hstands := computation_paceStands (p := p) hss hrun hretract hsession
  have hpu := paceStages_pu p s
  refine ⟨?_, ?_, ?_, ?_, ?_, ?_, fun hsame => ?_⟩
  · rw [hstands.step, hpu]; exact hstep
  · rw [hstands.windowSum, hpu]; exact hsum
  · rw [hstands.windowCount, hpu]; exact hcount
  · rw [hstands.lastWindow, hpu]; exact hlast
  · rw [hstands.lifting, hpu]
  · rw [hstands.clamped, hpu]
  · have hphase : (paceStages p s).phc.phase = (stood p s).phc.phase := by simp [paceStages_eq, publish, given]
    rcases hstands.sync with ⟨e, hsync, hrunOf⟩ | e
    · have hstood : stood p s = judged p s := stood_pacing (by rwa [← hphase, ← e, hsame])
      rw [hsync, hrunOf, hpu, given, hstood]
      exact ⟨rfl, rfl⟩
    · rw [← hsame, e] at hph; simp at hph

end Sys2Proof.Machine

open Sys2Proof Sys2Proof.Machine Sys2Proof.Safety

/-- Settles O29: the laws by phase from the set step's speed, and the stages of a computation under a running
session. -/
theorem demandLaws : Obligations.DemandLaws := by
  constructor
  · intro s p a w b f hp hrange hread
    let u := readTaken p (readValid a w b f) w s
    let v := retractCheck p u
    have hphase : (sampled p v).phase = (stood p v).phc.phase := sampled_phase p v
    have hlead : (sampled p v).lead = (lineView p v).lead := rfl
    have hpt : v.pt = s.pt := by simp [v, u]
    let k := setStep (lineView p v) (judged p v).pu.step
    have hspeed : setSpeed p v ≤ speedOf p k := baseSpeed_le ..
    obtain ⟨hmax, hpaced, hwindow, hup, hdown⟩ := demandOf_laws hrange (stood p v) hspeed (lineView p v).lead
    refine ⟨computation p u, sampled p v, exec_positionReadComplete hp hread a w b f, computation_sample p u, ?_⟩
    rw [hphase, hlead, sampled_demand]
    refine ⟨hmax, fun hph => ?_, hwindow, fun h => by rw [demandOf_rest h], hup, hdown⟩
    have hpacing : isPacing (stood p v).phc.phase = true := by rcases hph with e | e <;> rw [e] <;> rfl
    have hstands := computation_paced (p := p) (s := u) (hphase ▸ hpacing)
    have hstep : (computation p u).pu.step = (judged p v).pu.step := by
      rw [hstands.step, paceStages_pu, given, stood_pacing hpacing]; rfl
    have hlifting : (computation p u).pu.lifting = p.node :: (liftingPeers p v).map (·.1) := by
      rw [hstands.lifting, paceStages_pu]; rfl
    refine ⟨hpaced hph _ (by rw [hstep]; exact foldl_min_le List.mem_cons_self),
      fun j r hj hown hr => hpaced hph _ ?_⟩
    rw [hlifting] at hj
    obtain ⟨q, hq, rfl⟩ := List.mem_map.1 ((List.mem_cons.1 hj).resolve_left hown)
    obtain ⟨-, hreport⟩ := liftingPeers_reports hq
    rw [hpt, hr] at hreport
    obtain rfl := Option.some.inj hreport
    exact foldl_min_le (List.mem_cons_of_mem _ (List.mem_map_of_mem hq))
  · intro s p ss a w b f hp _ hread hn hq hquiet hss hrun hph
    let u := readTaken p (readValid a w b f) w s
    let t := computation p u
    have htaken : TakesRead s u := takesRead hquiet p w
    have huph : u.phc.phase = s.phc.phase := by rw [htaken.phc]
    have huss : u.su.session = some ss := by rw [htaken.su, hss]
    have huq : NothingTrips u := htaken.quiet hq
    have hpaced : u.phc.phase = .lift ∨ u.phc.phase = .lower := by rwa [huph]
    have hretract : u.phc.phase ≠ .retract := by rcases hpaced with e | e <;> rw [e] <;> simp
    have hpacing : isPacing u.phc.phase = true := by rcases hpaced with e | e <;> rw [e] <;> rfl
    have hmeasured := computation_measured (p := p) (s := u)
    have hheight : t.ci.height = u.ci.height := height_of_measured hmeasured
    have hload : t.ci.load.elim 0 (·.toNat) = loadNumber u.ci := by
      rw [show t.ci.load = u.ci.load by rw [eq_of_measured hmeasured]]; unfold loadNumber; cases u.ci.load <;> rfl
    have hsample : t.pu.sample = some (sampled p u) := by
      simp only [t, computation_sample, retractCheck_away hretract]
    have hpeers : (lineView p u).peers = matchingPeers p.node s.pt ss.token s.phc.phase := by
      rw [← htaken.pt, ← huph]; exact liftingPeers_running huss hpacing
    let peers := (lineView p u).peers.map (·.1)
    have hreports : peers.filterMap (fun j => (s.pt.entry j).report) = (lineView p u).peers.map (·.2) :=
      filterMap_reports fun q hq => by rw [← htaken.pt]; exact (liftingPeers_reports hq).2
    obtain ⟨hstep, hsum, hcount, hlast, hlifting, hclamped, hlock⟩ := computation_judged huss hrun huq hpaced p
    have hjudged := judged_pu (p := p) hpacing
    obtain ⟨hspread, hlead⟩ := lineView_measures (p := p) hpaced
    refine ⟨t, sampled p u, peers, exec_positionReadComplete hp hread a w b f, hsample, hlifting, ?_, fun j => ?_,
      fun hc h h1 h2 => ownLift_of_heights (htaken.contactHeight.trans h1) (hheight ▸ h2),
      fun h => ownLift_of_none (by rwa [htaken.contactHeight, ← hheight]), ?_⟩
    · simp only [peers, hpeers]; exact pairwise_matchingPeers ..
    · simp only [peers, hpeers]; exact mem_matchingPeers_fst
    · intro reports lifts lock load chosen
      have hchosen : (judged p u).pu = { chosen with sync := lock.1, lockRun := lock.2 } := by
        rw [hjudged, htaken.pu]
        simp only [chosen, load, hload, reports, hreports, List.all_map]
        rfl
      have hlifts : lifts = (lineView p u).lift.toInt :: (lineView p u).peers.map (fun q => q.2.lift.toInt) := by
        simp only [lifts, reports, hreports, List.map_map]
        rfl
      let k := setStep (lineView p u) (judged p u).pu.step
      refine ⟨leastOf _ _, greatestOf _ _, k, hlifts ▸ List.min?_cons', hlifts ▸ List.max?_cons', hspread,
        huph ▸ hlead, ?_, ?_, ?_, ?_, fun hsame => ?_, ?_, ?_⟩
      · rw [hstep, hchosen]
      · rw [hsum, hchosen]
      · rw [hcount, hchosen]
      · rw [hlast, hchosen]
      · rw [(hlock (hsame.trans huph.symm)).1, (hlock (hsame.trans huph.symm)).2, hchosen]
        exact ⟨rfl, rfl⟩
      · rw [hstep]
        simp only [reports, hreports, List.map_map]
        exact List.min?_cons'
      · have hspeed : setSpeed p u = _ := (setSpeed_eq p u).trans (baseSpeed_eq huss p (ownLift u.ci) k)
        have harrives := hasArrived_eq huss hpaced p (ownLift u.ci)
        obtain ⟨harrived, hgoes⟩ := paced_outcome huq hpaced p
        rw [huph] at hspeed harrives
        rw [huph, hspeed, ← hheight] at hgoes
        rw [hclamped]
        intro away target speed stands
        have htarget : (target.any fun x => away x ≤ 0) = hasArrived p u (ownLift u.ci) := harrives.symm
        cases h : hasArrived p u (ownLift u.ci) with
        | true => rw [if_pos (htarget.trans h)]; exact harrived h
        | false => rw [if_neg (by rw [htarget, h]; simp)]; exact hgoes h

end

section
/-! PROOFS. The start of a move: what alone starts one, and what starts it (R39, R69, R72, R95, R169). -/

namespace Sys2Proof.Machine

open Sys2Proof Sys2Proof.Safety

variable {s t u : State} {p : Plan} {c : Instr}

/-! ### No phase moves to LIFT or LOWER but by a start (R69) -/

/-- A change to a phase other than LIFT and LOWER leads to neither. -/
theorem changePhase_avoids {new ph : Phase} (hnew : isPacing new = false) (hph : isPacing ph = true) (s : State) :
    (changePhase new s).phc.phase ≠ ph := by
  rcases changePhase_lands new s with e | e <;> rw [e] <;> rintro rfl
  · rw [hnew] at hph; cases hph
  · cases hph

theorem applyHalt_avoids {ph : Phase} (hph : isPacing ph = true) (r : HaltRecord) (s : State) :
    (applyHalt r s).phc.phase ≠ ph := by
  rw [(applyHalt_spec r s).2.1]
  rintro rfl
  cases hph

theorem trip_avoids {ph : Phase} (hph : isPacing ph = true) (k : Cause) (d : Option TravelSide) (n : Option NodeNum)
    (hs : s.phc.phase ≠ ph) : (trip k d n s).phc.phase ≠ ph := by
  rcases (trip_paceStands k d n s).sync with ⟨e, -⟩ | e <;> rw [e]
  · exact hs
  · rintro rfl; cases hph

theorem tellAccepted_avoids {ph : Phase} (hph : isPacing ph = true) (d : Direction) (hs : s.phc.phase ≠ ph) :
    (tellAccepted d s).phc.phase ≠ ph := by
  rcases tellAccepted_cases d s with e | ⟨-, -, e⟩ | ⟨-, -, e⟩ <;> rw [e]
  · exact hs
  · exact changePhase_avoids rfl hph s
  · exact changePhase_avoids rfl hph s

theorem applyPending_avoids {ph : Phase} (hph : isPacing ph = true) (hs : s.phc.phase ≠ ph) :
    (applyPending s).phc.phase ≠ ph := by
  unfold applyPending
  split
  · split
    · exact tellAccepted_avoids hph _ hs
    · exact hs
  · exact hs

theorem takeClear_avoids {ph : Phase} (hph : isPacing ph = true) (e : Byte) (hs : s.phc.phase ≠ ph) :
    (takeClear e s).phc.phase ≠ ph := by
  have hsteps (p : Plan) : (clearSteps p e s).phc.phase ≠ ph := by simpa using hs
  rcases takeClear_cases e s with ⟨-, h⟩ | ⟨p, -, ⟨k, -, h⟩ | ⟨-, -, h⟩ | ⟨-, -, h⟩⟩ <;> rw [h]
  · exact hs
  · exact applyHalt_avoids hph _ _
  · refine applyPending_avoids hph (changePhase_avoids ?_ hph _)
    rcases phaseOnClear_cases (clearSteps p e s) with e | e | e <;> rw [e] <;> rfl
  · exact hsteps p

theorem adoption_avoids {ph : Phase} (hph : isPacing ph = true) (hs : s.phc.phase ≠ ph) :
    (adoption s).phc.phase ≠ ph := by
  rcases adoption_outcome s with ⟨-, e⟩ | ⟨sec, check, -, ⟨-, e⟩ | ⟨-, e⟩⟩ <;> rw [e]
  · exact changePhase_avoids rfl hph _
  · exact hs
  · rw [show (enterUnplanned (withdrawn sec check s)).phc.phase = .unplanned by simp]; rintro rfl; cases hph

/-- Of the commands only a completed read, with its start condition, moves a phase to LIFT or LOWER. -/
theorem phaseAvoided_kept (hread : ¬ IsRead c) {ph : Phase} (hph : isPacing ph = true) :
    Kept c (fun t => t.phc.phase ≠ ph) where
  aside h hs := by rwa [h.phase]
  trip k d n _ hs := trip_avoids hph k d n hs
  remote _ _ _ _ _ _ _ := applyHalt_avoids hph _ _
  accept _ d _ _ _ _ hs := tellAccepted_avoids hph d hs
  pending _ hs := applyPending_avoids hph hs
  ended {s} k _ hs := by
    cases hss : s.su.session with
    | none => rw [endSession_none k hss]; exact hs
    | some ss =>
      rw [endSession_some hss]
      exact changePhase_avoids (by cases (recordEnded k ss s).phc.phase <;> rfl) hph _
  clear e _ hs := takeClear_avoids hph e hs
  started _ _ _ := changePhase_avoids rfl hph _
  contact _ hs := by
    unfold contactMade
    split
    · exact changePhase_avoids rfl hph _
    · exact hs
  unloaded p _ hs := by
    unfold unloaded
    split
    · exact changePhase_avoids rfl hph _
    · exact hs
  arrive _ _ _ := changePhase_avoids rfl hph _
  start _ h _ _ := absurd h hread
  retract p _ hs := by
    unfold retractCheck
    split
    · exact changePhase_avoids rfl hph _
    · exact hs
  demand _ _ _ _ h _ _ _ := absurd h hread
  adopt _ _ _ _ _ hs := adoption_avoids hph hs
  reset _ _ := by rintro h; rw [← h] at hph; cases hph

/-! ### No session changes but by an opening and a start (R95, R169) -/

/-- The session, where there is one, is of a kind. -/
def SessionIs (Q : Session → Prop) (s : State) : Prop := ∀ ss, s.su.session = some ss → Q ss

theorem sessionIs_none {Q : Session → Prop} (h : s.su.session = none) : SessionIs Q s := by
  intro ss hss; rw [h] at hss; cases hss

theorem sessionIs_of_same {Q : Session → Prop} (h : t.su.session = s.su.session) (hs : SessionIs Q s) :
    SessionIs Q t := by
  intro ss hss; exact hs ss (h.symm.trans hss)

section sessions

variable {Q : Session → Prop} (hkeep : ∀ ss n, Q ss → Q { ss with keep := n })

include hkeep

theorem sessionIs_moves (c : Instr) : Moves c (SessionIs Q) where
  aside h hs ss' hss' := by
    rcases h.session with e | ⟨ss, n, hss, e⟩ <;> rw [e] at hss'
    · exact hs ss' hss'
    · obtain rfl := Option.some.inj hss'
      exact hkeep ss n (hs ss hss)
  trip k d n _ hs := by
    rcases (trip_paceStands k d n _).session with e | e
    · exact sessionIs_of_same e hs
    · exact sessionIs_none e
  safe hs := sessionIs_of_same (by simp) hs
  drive _ hs := hs

theorem sessionIs_changePhase (new : Phase) (hs : SessionIs Q s) : SessionIs Q (changePhase new s) :=
  (sessionIs_moves hkeep .reset).entered new (fun _ => hs) (sessionIs_of_same (by simp) hs)

theorem sessionIs_tellAccepted (d : Direction) (hs : SessionIs Q s) : SessionIs Q (tellAccepted d s) := by
  rcases tellAccepted_cases d s with e | ⟨-, -, e⟩ | ⟨-, -, e⟩ <;> rw [e]
  · exact hs
  · exact sessionIs_changePhase hkeep _ hs
  · exact sessionIs_changePhase hkeep _ hs

theorem sessionIs_applyPending (hs : SessionIs Q s) : SessionIs Q (applyPending s) := by
  unfold applyPending
  split
  · split
    · exact sessionIs_tellAccepted hkeep _ hs
    · exact hs
  · exact hs

theorem sessionIs_takeClear (e : Byte) (hs : SessionIs Q s) : SessionIs Q (takeClear e s) := by
  have hsteps (p : Plan) : SessionIs Q (clearSteps p e s) := sessionIs_of_same (by simp) hs
  rcases takeClear_cases e s with ⟨-, h⟩ | ⟨p, -, ⟨k, -, h⟩ | ⟨-, -, h⟩ | ⟨-, -, h⟩⟩ <;> rw [h]
  · exact hs
  · exact sessionIs_none (applyHalt_spec _ _).2.2.2.2.2
  · exact sessionIs_applyPending hkeep (sessionIs_changePhase hkeep _ (hsteps p))
  · exact hsteps p

theorem sessionIs_adoption (hs : SessionIs Q s) : SessionIs Q (adoption s) := by
  rcases adoption_outcome s with ⟨-, e⟩ | ⟨sec, check, -, ⟨-, e⟩ | ⟨-, e⟩⟩ <;> rw [e]
  · exact sessionIs_changePhase hkeep _ (sessionIs_none (by rw [handedOver_su]))
  · exact hs
  · exact sessionIs_none (by rw [enterUnplanned_su])

/-- A session opened is PENDING; no command but a completed read brings it on. -/
theorem sessionIs_kept (hread : ¬ IsRead c)
    (hopen : reachesReceiver c = true → ∀ ss, ss.state = .pending → Q ss) : Kept c (SessionIs Q) where
  aside := (sessionIs_moves hkeep c).aside
  trip := (sessionIs_moves hkeep c).trip
  remote _ _ _ _ _ _ _ := sessionIs_none (applyHalt_spec _ _).2.2.2.2.2
  accept _ d _ hr _ _ _ := sessionIs_tellAccepted hkeep d fun ss hss => by
    obtain rfl := Option.some.inj hss
    exact hopen hr _ rfl
  pending _ hs := sessionIs_applyPending hkeep hs
  ended {s} k _ hs := by
    cases hss : s.su.session with
    | none => rw [endSession_none k hss]; exact hs
    | some ss =>
      rw [endSession_some hss]
      refine sessionIs_changePhase hkeep _ (sessionIs_none ?_)
      split <;> simp
  clear e _ hs := sessionIs_takeClear hkeep e hs
  started _ _ hs := sessionIs_changePhase hkeep _ hs
  contact {s} _ hs := by
    unfold contactMade
    split
    · exact sessionIs_changePhase (s := s.withCi _) hkeep _ hs
    · exact hs
  unloaded p _ hs := by
    unfold unloaded
    split
    · exact sessionIs_changePhase hkeep _ hs
    · exact hs
  arrive {s} _ _ hs := sessionIs_changePhase (s := setLastStop .arrived s) hkeep _ hs
  start _ h _ _ := absurd h hread
  retract {s} p _ hs := by
    unfold retractCheck
    split
    · exact sessionIs_changePhase (s := setLastStop .arrived s) hkeep _ hs
    · exact hs
  demand _ _ _ _ h _ _ _ := absurd h hread
  adopt {s} _ _ _ _ _ hs := sessionIs_adoption (s := s.withPs _) hkeep hs
  reset _ _ := sessionIs_none rfl

end sessions

/-! ### The computation up to its start condition (R100, R143) -/

/-- A computation short of its start condition. -/
def checked (p : Plan) (s : State) : State :=
  checkSample p (sampled p (retractCheck p s)) (paceStages p (retractCheck p s))

theorem computation_checked (p : Plan) (s : State) : computation p s = startCondition p (checked p s) :=
  computation_eq p s

section checked

variable {P : State → Prop}
  (hsame : ∀ {s t : State}, t.phc.phase = s.phc.phase → t.su.session = s.su.session → P s → P t)

include hsame

/-- What shared operations keep of phase and session, a computation keeps up to its start condition. -/
theorem kept_checked (h : Kept c P) (hp : s.ps.plan = some p) (hs : P s) : P (checked p s) := by
  let v := retractCheck p s
  have hv : P v := h.retract p hp hs
  have hjudged : P (judged p v) := hsame (by rw [judged_phc]) (by rw [judged_su]) hv
  have hstood : P (stood p v) := by
    unfold stood
    split
    · next ha => exact h.arrive (by simp [judged, v, hp]) (hasArrived_pacing ha) hjudged
    · exact hjudged
  have hstages : P (paceStages p v) :=
    hsame (by simp [paceStages_eq, publish, given]) (by simp [paceStages_eq, publish, given]) hstood
  have hcounted : P (stallCounted (sampled p v) (paceStages p v)) :=
    hsame (s := paceStages p v) rfl rfl hstages
  have htrips (xs : List (Cause × Option NodeNum)) (hx : ∀ x ∈ xs, x.1 ≠ .travelLimit) {t : State} (ht : P t) :
      P (tripChecks xs t) := by
    induction xs generalizing t with
    | nil => exact ht
    | cons x xs ih =>
      have hfits : (none : Option TravelSide).isSome = true ↔ x.1 = .travelLimit := by
        simp [hx x List.mem_cons_self]
      exact ih (fun y hy => hx y (List.mem_cons_of_mem x hy)) (h.trip _ _ _ hfits ht)
  rw [checked, checkSample_eq]
  refine htrips _ (fun x hx => ?_) hcounted
  simp only [checkCauses, List.mem_append] at hx
  rcases hx with (hx | hx) | hx <;> split at hx <;> simp at hx <;> subst hx <;> simp

theorem kept_readTaken (h : Kept c P) (hp : s.ps.plan = some p) (valid : Bool) (w : Word) (hs : P s) :
    P (readTaken p valid w s) := by
  have h1 : P (s.withCi (takeRead valid w p.datum s.ci)) := hsame (s := s) rfl rfl hs
  unfold readTaken
  dsimp only
  split
  · exact h.noteValidRead (by simp [hp]) h1
  · split
    · exact h.trip _ _ _ (by simp) h1
    · exact h1

end checked

end Sys2Proof.Machine
end

section
/-! PROOFS. The start condition and the moves that it starts, and RETRACT at the parked height (R39, R69, R72, R95). -/

namespace Sys2Proof.Machine

open Sys2Proof Sys2Proof.Safety

variable {s t u : State} {p : Plan} {c : Instr}

/-! ### Membership agreement (R39) -/

theorem membershipAgreement_iff {pt : PeerTable} {k : Token} {phases : List Phase} :
    membershipAgreement p pt k phases = true ↔ SetAgrees p pt k phases := by
  have hmember (j : NodeNum) :
      memberAgrees pt k phases j = true ↔ ∃ r, Follows (pt.entry j) k r ∧ r.phase ∈ phases := by
    unfold memberAgrees
    constructor
    · intro h
      split at h
      · next r hr =>
        obtain ⟨hlive, hreport, hhalt⟩ := runningReport_iff.1 hr
        rw [Bool.and_eq_true, beq_iff_eq, List.contains_iff_mem] at h
        exact ⟨r, ⟨hlive, hreport, hhalt, h.1⟩, h.2⟩
      · cases h
    · rintro ⟨r, ⟨hlive, hreport, hhalt, htoken⟩, hphase⟩
      simp [runningReport_iff.2 ⟨hlive, hreport, hhalt⟩, htoken, hphase]
  unfold membershipAgreement SetAgrees
  rw [Bool.and_eq_true]
  refine and_congr ?_ ?_
  · simp [noStranger, allNodes]
  · simp only [List.all_eq_true, mem_allNodes, forall_true_left, Bool.or_eq_true, Bool.not_eq_true', beq_iff_eq,
      hmember]
    refine forall_congr' fun j => ?_
    cases isMember p j <;> simp [or_iff_not_imp_left]

/-- A computation writes the own entry's report alone (R36, R117). -/
theorem paceStages_pt (p : Plan) (s : State) : ∃ r,
    (paceStages p s).pt = s.pt.setEntry p.node { s.pt.entry p.node with report := some r } := by
  have hgiven : (given p s).pt = s.pt := by unfold given stood judged; split <;> simp
  exact ⟨_, by rw [paceStages_eq, publish, composeReport]; simp only [State.withPt_pt, State.withPu_pt, hgiven]; rfl⟩

theorem setAgrees_paceStages {k : Token} {phases : List Phase} :
    SetAgrees p (paceStages p s).pt k phases ↔ SetAgrees p s.pt k phases := by
  obtain ⟨r, hpt⟩ := paceStages_pt p s
  have hstate (j : NodeNum) : ((paceStages p s).pt.entry j).state = (s.pt.entry j).state := by
    rw [hpt]
    by_cases hj : j = p.node
    · subst hj; rw [PeerTable.entry_setEntry_same]
    · rw [PeerTable.entry_setEntry_other _ _ hj]
  have hother (j : NodeNum) (hj : j ≠ p.node) : (paceStages p s).pt.entry j = s.pt.entry j := by
    rw [hpt, PeerTable.entry_setEntry_other _ _ hj]
  unfold SetAgrees
  simp only [hstate]
  refine and_congr_right fun _ => forall_congr' fun j => forall_congr' fun _ => forall_congr' fun hj => ?_
  rw [hother j hj]

@[simp] theorem tripChecks_pt (xs : List (Cause × Option NodeNum)) (s : State) : (tripChecks xs s).pt = s.pt := by
  induction xs generalizing s with
  | nil => rfl
  | cons x xs ih => exact (ih _).trans (trip_pt ..)

@[simp] theorem tripChecks_ps (xs : List (Cause × Option NodeNum)) (s : State) : (tripChecks xs s).ps = s.ps := by
  induction xs generalizing s with
  | nil => rfl
  | cons x xs ih => exact (ih _).trans (trip_ps ..)

theorem setAgrees_checked {k : Token} {phases : List Phase} :
    SetAgrees p (checked p s).pt k phases ↔ SetAgrees p s.pt k phases := by
  rw [checked, checkSample_eq, tripChecks_pt]
  exact setAgrees_paceStages.trans (by rw [retractCheck_pt])

@[simp] theorem checked_ps (p : Plan) (s : State) : (checked p s).ps = s.ps := by
  simp [checked]

/-! ### What alone starts a move (R69, R95) -/

/-- A move starts by the start condition alone, and then a PENDING session agrees (R69, R95). -/
theorem startCondition_leads {ph : Phase} (hph : isPacing ph = true) (hs : s.phc.phase ≠ ph)
    (ht : (startCondition p s).phc.phase = ph) : ∃ ss, s.su.session = some ss ∧ ss.state = .pending
      ∧ s.ps.adopted = true ∧ ss.dir = (if ph = .lift then .up else .down)
      ∧ SetAgrees p s.pt ss.token (startPhases ss.dir) := by
  rcases startCondition_cases p s with e | ⟨ss, hss, hpending, hadopted, -, hagree, e⟩
  · rw [e] at ht; exact absurd ht hs
  · refine ⟨ss, hss, hpending, hadopted, ?_, membershipAgreement_iff.1 hagree⟩
    rw [e] at ht
    have hlands (new : Phase) (h : (changePhase new (s.withSu { s.su with
        session := some { ss with state := .running } })).phc.phase = ph) : ph = new := by
      rcases changePhase_lands new _ with e' | e' <;> rw [h] at e'
      · exact e'
      · rw [e'] at hph; cases hph
    rcases tellStarted_cases p ss.dir _ with e' | e' | ⟨-, ⟨hd, -, e'⟩ | ⟨hd, -, e'⟩ | ⟨hd, -, e'⟩⟩ <;> rw [e'] at ht
    · exact absurd ht hs
    · exact absurd ht hs
    · rw [hd, hlands _ ht]; rfl
    · rw [hd, hlands _ ht]; rfl
    · rw [hlands _ ht] at hph; cases hph

/-- A completed read leads to a computation, or leaves phase and session (R42, R43). -/
theorem exec_read_cases (a : Bool) (w : Word) (b f : Bool) (s : State) :
    (∃ p, s.ps.plan = some p ∧ exec (.positionReadComplete a w b f) s =
        .next (startCondition p (checked p (readTaken p (readValid a w b f) w s))))
    ∨ ∃ t, exec (.positionReadComplete a w b f) s = .next t ∧ t.phc = s.phc ∧ t.su = s.su := by
  have hkept (v : Bool) : (readKept v w s).phc = s.phc ∧ (readKept v w s).su = s.su := by
    unfold readKept; split <;> exact ⟨rfl, rfl⟩
  cases hp : s.ps.plan with
  | none =>
    refine .inr ⟨_, rfl, ?_⟩
    unfold readComplete
    rw [hp]
    cases s.ci.read
    · exact ⟨rfl, rfl⟩
    · exact hkept _
    · exact hkept _
  | some p =>
    cases hread : s.ci.read with
    | inFlight =>
      refine .inl ⟨p, rfl, ?_⟩
      rw [exec_positionReadComplete hp hread, readHandedOn_eq, computation_checked]
    | idle => exact .inr ⟨s, by simp [exec, execPositionReadComplete, readComplete, hread], rfl, rfl⟩
    | inFlightNotHanded =>
      exact .inr ⟨_, by simp [exec, execPositionReadComplete, readComplete, hread]; rfl, hkept _⟩

/-- A command that is no read, to say what a read does up to its start condition. -/
theorem contactTimeout_not_read : ¬ IsRead .contactTimeout := by rintro ⟨a, w, b, f, h⟩; cases h

/-- Up to its start condition a read leads neither to LIFT nor to LOWER. -/
theorem checked_avoids {ph : Phase} (hph : isPacing ph = true) (hp : s.ps.plan = some p) (valid : Bool) (w : Word)
    (hs : s.phc.phase ≠ ph) : (checked p (readTaken p valid w s)).phc.phase ≠ ph := by
  have hkept := phaseAvoided_kept contactTimeout_not_read hph
  have hsame : ∀ {s t : State}, t.phc.phase = s.phc.phase → t.su.session = s.su.session →
      s.phc.phase ≠ ph → t.phc.phase ≠ ph := fun h _ hs => by rwa [h]
  exact kept_checked hsame hkept (by rw [readTaken_ps, hp]) (kept_readTaken hsame hkept hp valid w hs)

/-- Up to its start condition a read opens no session and brings none on. -/
theorem checked_sessionIs {Q : Session → Prop} (hkeep : ∀ ss n, Q ss → Q { ss with keep := n })
    (hp : s.ps.plan = some p) (valid : Bool) (w : Word) (hs : SessionIs Q s) :
    SessionIs Q (checked p (readTaken p valid w s)) := by
  have hkept := sessionIs_kept hkeep contactTimeout_not_read (fun h => Bool.noConfusion h)
  have hsame : ∀ {s t : State}, t.phc.phase = s.phc.phase → t.su.session = s.su.session →
      SessionIs Q s → SessionIs Q t := fun _ h hs => sessionIs_of_same h hs
  exact kept_checked hsame hkept (by rw [readTaken_ps, hp]) (kept_readTaken hsame hkept hp valid w hs)

/-- A move starts by a completed read alone, at which a PENDING session of an adopted plan agrees (R69, R95). -/
theorem exec_leads {ph : Phase} (hph : isPacing ph = true) (hs : s.phc.phase ≠ ph) (h : exec c s = .next t)
    (ht : t.phc.phase = ph) : IsRead c ∧ ∃ p ss, s.ps.plan = some p ∧ s.su.session = some ss ∧ ss.state = .pending
      ∧ s.ps.adopted = true ∧ SetAgrees p s.pt ss.token (startPhases (if ph = .lift then .up else .down)) := by
  by_cases hread : IsRead c
  · refine ⟨hread, ?_⟩
    obtain ⟨a, w, b, f, rfl⟩ := hread
    rcases exec_read_cases a w b f s with ⟨p, hp, e⟩ | ⟨t', e, hphc, -⟩
    · obtain rfl := Host.Outcome.next.inj (e.symm.trans h)
      obtain ⟨ss, hss, hpending, hadopted, hdir, hagree⟩ :=
        startCondition_leads hph (checked_avoids hph hp (readValid a w b f) w hs) ht
      have horigin := checked_sessionIs (s := s) (valid := readValid a w b f) (w := w)
        (Q := fun x => ∃ ss, s.su.session = some ss ∧ ss.state = x.state ∧ ss.token = x.token)
        (fun _ _ h => h) hp (fun x hx => ⟨x, hx, rfl, rfl⟩)
      obtain ⟨ss', hss', hstate, htoken⟩ := horigin ss hss
      refine ⟨p, ss', hp, hss', hstate.trans hpending, by simpa using hadopted, ?_⟩
      rw [hdir, setAgrees_checked, readTaken_pt] at hagree
      rwa [htoken]
    · obtain rfl := Host.Outcome.next.inj (e.symm.trans h)
      exact absurd (by rw [← hphc, ht]) hs
  · obtain ⟨t', e, ht'⟩ := exec_kept c (phaseAvoided_kept hread hph) hs
    obtain rfl := Host.Outcome.next.inj (e.symm.trans h)
    exact absurd ht ht'

/-- Unadopted, a PENDING session is PENDING after every command, where it stands (R169). -/
theorem exec_pending {ss : Session} (h : exec c s = .next t) (hadopted : s.ps.adopted = false)
    (hss : s.su.session = some ss) (hpending : ss.state = .pending) : SessionIs (fun x => x.state = .pending) t := by
  have hkeep : ∀ (x : Session) (n : Nat), x.state = .pending → ({ x with keep := n } : Session).state = .pending :=
    fun _ _ h => h
  have hs : SessionIs (fun x => x.state = .pending) s := by
    intro x hx; rw [hss] at hx; cases hx; exact hpending
  by_cases hread : IsRead c
  · obtain ⟨a, w, b, f, rfl⟩ := hread
    rcases exec_read_cases a w b f s with ⟨p, hp, e⟩ | ⟨t', e, -, hsu⟩
    · obtain rfl := Host.Outcome.next.inj (e.symm.trans h)
      rcases startCondition_cases p (checked p (readTaken p (readValid a w b f) w s)) with e | ⟨x, -, -, hyes, -⟩
      · rw [e]; exact checked_sessionIs hkeep hp _ _ hs
      · simp [hadopted] at hyes
    · obtain rfl := Host.Outcome.next.inj (e.symm.trans h)
      exact sessionIs_of_same (by rw [hsu]) hs
  · obtain ⟨t', e, ht'⟩ := exec_kept c (sessionIs_kept hkeep hread (fun _ _ h => h)) hs
    obtain rfl := Host.Outcome.next.inj (e.symm.trans h)
    exact ht'

end Sys2Proof.Machine
end

section
/-! PROOFS. The checks at the control sample and what the computation hands them (R143 to R147). -/

namespace Sys2Proof.Machine

open Sys2Proof Sys2Proof.Safety

variable {s t u : State} {p : Plan} {c : ControlSample}

/-! ### What a trip leaves of the sample checks (R139, R140, R145) -/

theorem haltOrder_tm (s : State) : ∃ f d r,
    (haltOrder s).tm = { s.tm with flags := f, travelSide := d, restHeight := r } := by
  have hfold (cs : List (Cause × Option TravelSide)) (u : State) : ∃ f d,
      (cs.foldl (fun t c => setFlag c.1 c.2 t) u).tm = { u.tm with flags := f, travelSide := d } := by
    induction cs generalizing u with
    | nil => exact ⟨_, _, rfl⟩
    | cons x cs ih => obtain ⟨f, d, e⟩ := ih (setFlag x.1 x.2 u); exact ⟨f, d, e⟩
  unfold haltOrder
  dsimp only
  split
  · exact ⟨s.tm.flags, s.tm.travelSide, s.tm.restHeight, by simp⟩
  · obtain ⟨f, d, e⟩ := hfold (switchCauses .halted (safeDrive s).ci.levels) (enterPhase .halted (safeDrive s))
    exact ⟨f, d, _, by rw [e, enterPhase_tm, safeDrive_tm]⟩

/-- A trip leaves the stall counter, the height of the last sample and the last stop cause. -/
theorem trip_stands (k : Cause) (d : Option TravelSide) (n : Option NodeNum) (s : State) :
    (trip k d n s).tm.stall = s.tm.stall ∧ (trip k d n s).tm.prevHeight = s.tm.prevHeight
      ∧ (trip k d n s).phc.lastStop = s.phc.lastStop := by
  rcases trip_cases k d n s with ⟨-, e⟩ | ⟨-, -, e⟩ | ⟨-, -, e⟩ <;> rw [e]
  · exact ⟨rfl, rfl, rfl⟩
  · exact ⟨rfl, rfl, rfl⟩
  · let v := (compose (haltFrame k n (setFlag k d s)) (setFlag k d s)).withTm
      { (compose (haltFrame k n (setFlag k d s)) (setFlag k d s)).tm with
        record := some (localRecord k n (setFlag k d s)) }
    obtain ⟨f, y, r, e⟩ := haltOrder_tm v
    have htm : (localHalt k n (setFlag k d s)).tm = (haltOrder v).tm := by simp [localHalt, applyHalt, v]
    refine ⟨by rw [htm, e]; simp [v, setFlag], by rw [htm, e]; simp [v, setFlag], ?_⟩
    simp [localHalt, applyHalt, setFlag]

theorem tripChecks_stands (xs : List (Cause × Option NodeNum)) (s : State) :
    (tripChecks xs s).tm.stall = s.tm.stall ∧ (tripChecks xs s).tm.prevHeight = s.tm.prevHeight
      ∧ (tripChecks xs s).phc.lastStop = s.phc.lastStop := by
  induction xs generalizing s with
  | nil => exact ⟨rfl, rfl, rfl⟩
  | cons x xs ih =>
    obtain ⟨h1, h2, h3⟩ := trip_stands x.1 none x.2 s
    obtain ⟨i1, i2, i3⟩ := ih (trip x.1 none x.2 s)
    exact ⟨i1.trans h1, i2.trans h2, i3.trans h3⟩

/-- Every check that holds sets its flag (R139, R140). -/
theorem tripChecks_hasFlag {xs : List (Cause × Option NodeNum)} {x : Cause × Option NodeNum} (hx : x ∈ xs)
    (hp : s.ps.plan.isSome = true) : hasFlag (tripChecks xs s).tm.flags x.1 = true := by
  have hkeeps (ys : List (Cause × Option NodeNum)) (k : Cause) (u : State) (h : hasFlag u.tm.flags k = true) :
      hasFlag (tripChecks ys u).tm.flags k = true := by
    induction ys generalizing u with
    | nil => exact h
    | cons y ys ih => exact ih _ (trip_keeps_hasFlag y.1 none y.2 h)
  induction xs generalizing s with
  | nil => simp at hx
  | cons y ys ih =>
    rcases List.mem_cons.1 hx with rfl | hx
    · exact hkeeps ys _ _ (trip_hasFlag x.1 none x.2 hp)
    · exact ih hx (s := trip y.1 none y.2 s) (by rwa [trip_ps])

/-- The first check that holds halts the node; the further ones leave its halt (R139, R140). -/
theorem tripChecks_first (x : Cause × Option NodeNum) (xs : List (Cause × Option NodeNum))
    (hp : s.ps.plan.isSome = true) (hn : NotHalted s) :
    HaltedWith (localRecord x.1 x.2 s) s (tripChecks (x :: xs) s) := by
  have hfirst := (haltsAlike_refl s).trip x.1 none x.2 hp hn
  have ⟨hrec, _⟩ := hfirst
  obtain ⟨f, d, e⟩ := tripChecks_halted (s := trip x.1 none x.2 s) xs (by rw [hrec]; rfl)
  have h : tripChecks (x :: xs) s = tripChecks xs (trip x.1 none x.2 s) := rfl
  rw [h, e]
  exact hfirst

/-! ### The neighbour out of tolerance (R144) -/

theorem outOfTolerance_eq (c : ControlSample) (t : PeerTable) (n : Neighbour) :
    outOfTolerance c t n = (((loadedReport (t.entry n.node)).map (fun r => (n, r.lift))).any fun q =>
      t.periodList.contains q.1.node && q.1.tolerance < distance c.lift.toInt q.2.toInt) := by
  unfold outOfTolerance loadedReport liveReport distance
  by_cases hl : (t.entry n.node).state = .live
  · cases hr : (t.entry n.node).report with
    | none => simp [hl]
    | some r => cases hv : r.refValid <;> simp [hl, hv, Option.filter]
  · simp [hl]

/-- DIFFERENTIAL names the first neighbour in the plan's order that is out of tolerance (R144). -/
theorem differentialPeer_eq (p : Plan) (c : ControlSample) (t : PeerTable) : differentialPeer p c t =
    if isLoaded c.phase = true then (p.neighbours.find? (outOfTolerance c t)).map (·.node) else none := by
  unfold differentialPeer loadedNeighbours
  refine if_congr Iff.rfl ?_ rfl
  rw [List.find?_filterMap]
  rw [show (fun n => ((loadedReport (t.entry n.node)).map (fun r => (n, r.lift))).any fun q =>
      t.periodList.contains q.1.node && q.1.tolerance < distance c.lift.toInt q.2.toInt) = outOfTolerance c t from
    funext fun n => (outOfTolerance_eq c t n).symm]
  cases hf : p.neighbours.find? (outOfTolerance c t) with
  | none => rfl
  | some n =>
    have hn := List.find?_some hf
    rw [outOfTolerance_eq] at hn
    cases hr : loadedReport (t.entry n.node) with
    | none => rw [hr] at hn; simp at hn
    | some r => simp [hr]

/-! ### What a computation hands to the checks (R72, R108, R115, R146) -/

/-- A column that a computation stops: the drive is made safe in the resting phase entered (R51, R52, R73). -/
def stoppedAt (ph : Phase) (s : State) : State := safeDrive (enterPhase ph (setLastStop .arrived s))

theorem changePhase_stoppedAt {ph : Phase} (hph : isMoving ph = false) (hmoving : isMoving s.phc.phase = true)
    (hq : NothingTrips s) : changePhase ph (setLastStop .arrived s) = stoppedAt ph s := by
  have hne : (setLastStop .arrived s).phc.phase ≠ ph := by
    rintro e
    rw [← e] at hph
    exact Bool.noConfusion (hph.symm.trans hmoving)
  rw [changePhase_quiet (s := setLastStop .arrived s) hq hph hne]
  exact columnAt_stops _ hph hmoving

/-- At or below the parked height RETRACT ends in IDLE; else the phase goes on (R72). -/
theorem retractCheck_eq (hq : NothingTrips s) (p : Plan) : retractCheck p s =
    if s.phc.phase = .retract ∧ s.ci.height.isSome = true ∧ aboveParked p s.ci = false then stoppedAt .idle s
    else s := by
  unfold retractCheck
  split
  · next h => exact changePhase_stoppedAt rfl (by rw [h.1]; rfl) hq
  · rfl

/-- `v` is come to from `s` without a halt: its record, its flags and its session stand, and its phase too, or a
resting phase has just been entered. -/
structure Rested (s v : State) : Prop where
  tm : v.tm = { s.tm with restHeight := v.tm.restHeight }
  su : v.su = s.su
  ps : v.ps = s.ps
  measured : measured v.ci = measured s.ci
  phase : (v.phc = s.phc ∧ v.tm.restHeight = s.tm.restHeight)
    ∨ (v.phc.phase ≠ s.phc.phase ∧ (v.phc.phase = .idle ∨ v.phc.phase = .hold) ∧ v.tm.restHeight = s.ci.height)

theorem Rested.refl (s : State) : Rested s s := ⟨rfl, rfl, rfl, rfl, .inl ⟨rfl, rfl⟩⟩

/-- A change beside phase and record. -/
theorem Rested.beside (h : Rested s t) (htm : u.tm = t.tm) (hsu : u.su = t.su) (hps : u.ps = t.ps)
    (hci : Machine.measured u.ci = Machine.measured t.ci) (hphc : u.phc = t.phc) : Rested s u := by
  obtain ⟨h1, h2, h3, h4, h5⟩ := h
  exact ⟨by rw [htm]; exact h1, hsu.trans h2, hps.trans h3, hci.trans h4, by rw [htm, hphc]; exact h5⟩

theorem rested_stoppedAt {ph : Phase} (hph : ph = .idle ∨ ph = .hold) (hmoving : isMoving s.phc.phase = true) :
    Rested s (stoppedAt ph s) := by
  have hresting : isResting ph = true := by rcases hph with rfl | rfl <;> rfl
  have hne : ph ≠ s.phc.phase := by rintro rfl; rcases hph with e | e <;> rw [e] at hmoving <;> cases hmoving
  refine ⟨?_, ?_, ?_, ?_, .inr ⟨?_, ?_, ?_⟩⟩
  · simp [stoppedAt, setLastStop, hresting]
  · simp [stoppedAt, setLastStop]
  · simp [stoppedAt, setLastStop]
  · simp [stoppedAt, setLastStop]
  · simpa [stoppedAt] using hne
  · simpa [stoppedAt] using hph
  · simp [stoppedAt, setLastStop, hresting]

theorem arrivedAt_eq (p : Plan) (s : State) : arrivedAt p s = stoppedAt .hold (judged p s) := rfl

/-- Where nothing trips, a computation comes to its checks without a halt. -/
theorem rested_paceStages (hq : NothingTrips s) (p : Plan) : Rested s (paceStages p (retractCheck p s)) := by
  have hstood : Rested s (stood p (retractCheck p s)) := by
    rw [retractCheck_eq hq]
    split
    · next h =>
      rw [stood_unpaced (by simp [stoppedAt, isPacing])]
      exact rested_stoppedAt (.inl rfl) (by rw [h.1]; rfl)
    · have hjudged : Rested s (judged p s) := (Rested.refl s).beside (by simp [judged]) (judged_su p s)
        (by simp [judged]) (by rw [judged_ci]) (judged_phc p s)
      cases harrived : hasArrived p s (ownLift s.ci) with
      | false => rw [stood_goes harrived]; exact hjudged
      | true =>
        have hmoving : isMoving s.phc.phase = true := by
          rcases hasArrived_pacing harrived with e | e <;> rw [e] <;> rfl
        obtain ⟨h1, h2, h3, h4, h5⟩ := rested_stoppedAt (s := judged p s) (.inr rfl) (by rwa [judged_phc])
        rw [stood_arrives hq harrived, arrivedAt_eq]
        rw [judged_ci] at h4 h5
        rw [judged_phc] at h5
        refine ⟨h1.trans (by simp [judged]), h2.trans (judged_su p s), h3.trans (by simp [judged]), h4, ?_⟩
        rcases h5 with ⟨e, -⟩ | h5
        · have : Phase.hold = s.phc.phase := by simpa [stoppedAt] using congrArg PhaseController.phase e
          rw [← this] at hmoving; cases hmoving
        · exact .inr h5
  exact hstood.beside (by simp [paceStages_eq, publish, given]) (by simp [paceStages_eq, publish, given])
    (by simp [paceStages_eq, publish, given]) (by simp [paceStages_eq, publish, given])
    (by simp [paceStages_eq, publish, given])

end Sys2Proof.Machine
end

section
/-! PROOFS. Local trips: by a line, by a timer and by the checks at the control sample (R139, R140, R143 to R147). -/

namespace Sys2Proof.Machine

open Sys2Proof Sys2Proof.Safety

variable {s t u : State} {p : Plan}

/-! ### A start that nothing holds back (R69) -/

/-- The levels at which no column is stopped on its way into a moving phase (R53, R141). -/
structure Clear (ci : ColumnInterface) : Prop where
  up : ci.levels.limitUp ≠ some true
  down : ci.levels.limitDown ≠ some true
  ready : ci.levels.driveReady ≠ some false

theorem clear_of_measured {ci ci' : ColumnInterface} (h : measured ci' = measured ci) (hc : Clear ci) : Clear ci' := by
  obtain ⟨h1, h2, h3⟩ := hc
  rw [eq_of_measured h]
  exact ⟨h1, h2, h3⟩

theorem TakesRead.clear (h : TakesRead s u) (hc : Clear s.ci) : Clear u.ci := by
  obtain ⟨h1, h2, h3⟩ := hc
  exact ⟨by rwa [h.levels], by rwa [h.levels], by rwa [h.levels]⟩

theorem changePhase_clear {new : Phase} (hnew : isMoving new = true) (hold : isMoving s.phc.phase = false)
    (hc : Clear s.ci) (hr : s.tm.record = none) (hq : NothingTrips s) :
    changePhase new s = (enterPhase new s).withCi (columnStarted new s.ci) :=
  changePhase_starts hnew hold hc.ready hr hq (fun _ => hc.up) (fun _ => hc.down)

theorem startCondition_tm (hc : Clear s.ci) (hr : s.tm.record = none) (hq : NothingTrips s) (p : Plan) :
    ∃ r, (startCondition p s).tm = { s.tm with restHeight := r } := by
  rcases startCondition_cases p s with e | ⟨ss, -, -, -, -, -, e⟩
  · exact ⟨s.tm.restHeight, by rw [e]⟩
  · let v := s.withSu { s.su with session := some { ss with state := .running } }
    have hstarts (new : Phase) (hnew : isMoving new = true) (hold : isMoving v.phc.phase = false) :
        ∃ r, (changePhase new v).tm = { s.tm with restHeight := r } :=
      ⟨_, by rw [changePhase_clear hnew hold hc hr hq]; simp [v]; rfl⟩
    rw [e]
    rcases tellStarted_cases p ss.dir v with e' | e' | ⟨-, ⟨-, hph, e'⟩ | ⟨-, hph, e'⟩ | ⟨-, hph, e'⟩⟩ <;> rw [e']
    · exact ⟨s.tm.restHeight, rfl⟩
    · exact ⟨s.tm.restHeight, rfl⟩
    · exact hstarts _ rfl (by rw [hph]; rfl)
    · exact hstarts _ rfl (by rw [hph]; rfl)
    · exact hstarts _ rfl (by rw [hph]; rfl)

/-! ### The checks of a computation, all of them (R143) -/

/-- The state and the sample that a computation hands to its checks, the stall counter told. -/
def handed (p : Plan) (s : State) : State :=
  stallCounted (sampled p (retractCheck p s)) (paceStages p (retractCheck p s))

theorem checked_eq (p : Plan) (s : State) : checked p s =
    tripChecks (checkCauses p (sampled p (retractCheck p s)) (paceStages p (retractCheck p s))) (handed p s) :=
  checkSample_eq ..

/-- A computation none of whose checks holds goes on to the start condition. -/
theorem computation_passes
    (h : checkCauses p (sampled p (retractCheck p s)) (paceStages p (retractCheck p s)) = []) :
    computation p s = startCondition p (handed p s) := by
  rw [computation_checked, checked_eq, h]
  rfl

/-- A computation one of whose checks holds halts there, and starts no move. -/
theorem computation_halts {x : Cause × Option NodeNum} {xs : List (Cause × Option NodeNum)}
    (h : checkCauses p (sampled p (retractCheck p s)) (paceStages p (retractCheck p s)) = x :: xs)
    (hp : (handed p s).ps.plan.isSome = true) (hn : NotHalted (handed p s)) :
    computation p s = tripChecks (x :: xs) (handed p s)
      ∧ HaltedWith (localRecord x.1 x.2 (handed p s)) (handed p s) (computation p s) := by
  have hhalted := tripChecks_first x xs hp hn
  have heq : computation p s = tripChecks (x :: xs) (handed p s) := by
    rw [computation_checked, checked_eq, h]
    exact startCondition_away hhalted.2.1 (by simp) (by simp) (by simp) p
  exact ⟨heq, by rw [heq]; exact hhalted⟩

/-! ### A trip by a line or by a timer (R50, R75, R139, R141) -/

/-- `u` is `s` with a line or a timer moved, as it stands when the trip is told. -/
structure MovedBefore (s u : State) : Prop where
  alike : HaltsAlike s u
  tm : u.tm = s.tm
  lau : u.lau = s.lau
  sp : u.sp = s.sp
  su : u.su = s.su
  pu : u.pu = s.pu
  pt : u.pt = s.pt
  ps : u.ps = s.ps
  phase : u.phc.phase = s.phc.phase

theorem exec_trips {c : Instr} {cause : Cause} (hph : s.phc.phase ≠ .unplanned)
    (h : (c = .switchChange .estop true ∧ cause = .estop ∧ s.ci.levels.estop = some false)
      ∨ (c = .contactTimeout ∧ cause = .contactTimeout ∧ s.phc.contactTimer.isSome = true)
      ∨ (c = .loadSilenceExpiry ∧ cause = .loadSilent ∧ s.ci.loadTimer.isSome = true)) :
    ∃ u, exec c s = .next (trip cause none none u) ∧ MovedBefore s u := by
  rcases h with ⟨rfl, rfl, hlevel⟩ | ⟨rfl, rfl, htimer⟩ | ⟨rfl, rfl, htimer⟩
  · refine ⟨relevelled .estop true s, ?_, ⟨haltsAlike_levels _, rfl, rfl, rfl, rfl, rfl, rfl, rfl, rfl⟩⟩
    rw [exec_switchChange (line := .estop) (level := true) hlevel, switchMoves_estop hph]
  · obtain ⟨n, hn⟩ := Option.isSome_iff_exists.1 htimer
    refine ⟨s.withPhc { s.phc with contactTimer := none }, ?_, ⟨⟨rfl, rfl, rfl, rfl, rfl, rfl, rfl, rfl, rfl⟩,
      rfl, rfl, rfl, rfl, rfl, rfl, rfl, rfl⟩⟩
    simp [exec, execContactTimeout, hn]
  · obtain ⟨n, hn⟩ := Option.isSome_iff_exists.1 htimer
    refine ⟨s.withCi { s.ci with loadSilent := true, loadTimer := none }, ?_,
      ⟨⟨rfl, rfl, rfl, rfl, rfl, rfl, rfl, rfl, rfl⟩, rfl, rfl, rfl, rfl, rfl, rfl, rfl, rfl⟩⟩
    simp [exec, execLoadSilenceExpiry, hn]

/-! ### What the checks find (R143 to R146) -/

theorem rested_handed (hq : NothingTrips s) (p : Plan) :
    (handed p s).tm.record = s.tm.record ∧ (handed p s).tm.flags = s.tm.flags ∧ (handed p s).su = s.su
      ∧ (handed p s).ps = s.ps ∧ measured (handed p s).ci = measured s.ci := by
  obtain ⟨htm, hsu, hps, hci, -⟩ := rested_paceStages hq p
  refine ⟨?_, ?_, hsu, hps, hci⟩
  · exact (congrArg TripMonitor.record htm : _)
  · exact (congrArg TripMonitor.flags htm : _)

theorem handed_notHalted (hq : NothingTrips s) (hn : NotHalted s) (p : Plan) : NotHalted (handed p s) := by
  obtain ⟨hrec, hph⟩ := hn
  refine ⟨(rested_handed hq p).1.trans hrec, ?_⟩
  have hphase : (handed p s).phc.phase = (paceStages p (retractCheck p s)).phc.phase := rfl
  rcases (rested_paceStages hq p).phase with ⟨e, -⟩ | ⟨-, e | e, -⟩ <;> rw [hphase, e]
  · exact hph
  · simp
  · simp

theorem sampled_phase_published (p : Plan) (s : State) : (sampled p s).phase = (paceStages p s).phc.phase := by
  simp [sampled_phase, paceStages_eq, publish, given]

/-- DRIFT needs a resting phase that no computation has just entered, and a height out of its tolerance (R146). -/
theorem driftHolds_iff (hq : NothingTrips s) (p : Plan) :
    let c := sampled p (retractCheck p s)
    driftHolds p c (paceStages p (retractCheck p s)).tm = true ↔
      (c.phase = .idle ∨ c.phase = .contact ∨ c.phase = .hold) ∧ c.phase = s.phc.phase
        ∧ ∃ h ∈ c.height, ∃ r ∈ s.tm.restHeight, p.drift < ((h.toNat : Int) - r.toNat).natAbs := by
  intro c
  have hheight : c.height = s.ci.height :=
    (sampled_height ..).trans (height_of_measured (by simp))
  have hphase : c.phase = (paceStages p (retractCheck p s)).phc.phase := sampled_phase_published ..
  have hresting : isResting c.phase = true ↔ c.phase = .idle ∨ c.phase = .contact ∨ c.phase = .hold := by
    cases c.phase <;> simp [isResting]
  unfold driftHolds
  rcases (rested_paceStages hq p).phase with ⟨hphc, hrest⟩ | ⟨hne, -, hrest⟩
  · rw [hrest, hphase, hphc]
    rw [hphase, hphc] at hresting
    cases c.height with
    | none => simp
    | some h =>
      cases s.tm.restHeight with
      | none => simp
      | some r =>
        simp only [Bool.and_eq_true, hresting, distance, Option.mem_def, Option.some.injEq, exists_eq_left', true_and]
        exact and_congr_right fun _ => decide_eq_true_iff
  · rw [hrest, hheight]
    have hnot : ¬ c.phase = s.phc.phase := by rwa [hphase]
    cases s.ci.height <;> simp [hnot, distance]

/-- The checks that hold at a computation, in their order. -/
def causesAt (p : Plan) (s : State) : List (Cause × Option NodeNum) :=
  checkCauses p (sampled p (retractCheck p s)) (paceStages p (retractCheck p s))

/-- A computation whose checks find nothing leaves the Trip Monitor as it was handed on (R143). -/
theorem computation_unchecked (hq : NothingTrips s) (hc : Clear s.ci) (hr : s.tm.record = none)
    (h : causesAt p s = []) : ∃ r, (computation p s).tm = { (handed p s).tm with restHeight := r } := by
  obtain ⟨hrec, -, -, -, hci⟩ := rested_handed hq p
  rw [computation_passes h]
  exact startCondition_tm (clear_of_measured hci hc) (hrec.trans hr) (nothingTrips_of_measured hci hq) p

/-- Stall counter and height of the sample stand after every computation (R145). -/
theorem computation_counted (hq : NothingTrips s) (hc : Clear s.ci) (hp : s.ps.plan = some p) (hn : NotHalted s) :
    (computation p s).tm.stall = (handed p s).tm.stall
      ∧ (computation p s).tm.prevHeight = (sampled p (retractCheck p s)).height := by
  cases h : causesAt p s with
  | nil =>
    obtain ⟨r, htm⟩ := computation_unchecked hq hc hn.1 h
    rw [htm]
    exact ⟨rfl, rfl⟩
  | cons x xs =>
    have hplan : (handed p s).ps.plan.isSome = true := by rw [(rested_handed hq p).2.2.2.1, hp]; rfl
    rw [(computation_halts h hplan (handed_notHalted hq hn p)).1]
    obtain ⟨hstall, hprev, -⟩ := tripChecks_stands (x :: xs) (handed p s)
    exact ⟨hstall, hprev⟩

/-- Every check that holds at a computation sets its flag (R140, R143). -/
theorem computation_hasFlag (hq : NothingTrips s) (hp : s.ps.plan = some p) (hn : NotHalted s)
    {x : Cause × Option NodeNum} (hx : x ∈ causesAt p s) : hasFlag (computation p s).tm.flags x.1 = true := by
  have hplan : (handed p s).ps.plan.isSome = true := by rw [(rested_handed hq p).2.2.2.1, hp]; rfl
  cases h : causesAt p s with
  | nil => rw [h] at hx; simp at hx
  | cons y ys =>
    rw [(computation_halts h hplan (handed_notHalted hq hn p)).1]
    exact tripChecks_hasFlag (h ▸ hx) hplan

end Sys2Proof.Machine

open Sys2Proof Sys2Proof.Machine Sys2Proof.Safety

/-- Settles O23: the trips by line and timer, and the checks of a computation in their order. -/
theorem localTrip : Obligations.LocalTrip := by
  refine ⟨fun s p c cause hp hn hph hurgent hcase => ?_, fun s p c cause hp hr hph hcase => ?_,
    fun s p a w b f hp hrange hread hn hq hup hdown hready hquiet => ?_,
    fun s p a w b f hp hrange hread hph hr hquiet => ?_⟩
  · obtain ⟨u, hexec, hmoved⟩ := exec_trips hph hcase
    have hpu : u.ps.plan = some p := by rw [hmoved.ps, hp]
    have hru : u.tm.record = none := by rw [hmoved.tm, hn.1]
    have hnu : NotHalted u := ⟨hru, by rw [hmoved.phase]; exact hn.2⟩
    have ⟨hhalted, hflag⟩ := hmoved.alike.trip_record hp hnu (by rw [hmoved.su])
      (by rw [sampleLift, sampleLift, hmoved.pu]) cause none
    refine ⟨_, hexec, hhalted, hflag, ?_, ?_, ?_⟩
    · rw [trip_urgent hpu hru cause none (by rw [hmoved.lau, hurgent]; simp), hmoved.lau, hurgent]
      simp only [haltOf, sampleLift, hmoved.tm, hmoved.pu]
      rfl
    · exact withdrawsStart_of_same (trip_withdrawsStart hpu hru cause none none) hmoved.su (by rw [hmoved.lau])
        (by rw [hmoved.tm])
    · rw [trip_pt, hmoved.pt]
  · obtain ⟨u, hexec, hmoved⟩ := exec_trips hph hcase
    have htrip := trip_halted (s := u) cause none none (by rw [hmoved.ps, hp]; rfl) (by rwa [hmoved.tm])
    refine ⟨_, hexec, ?_⟩
    rw [htrip]
    refine ⟨?_, hmoved.lau, hmoved.sp, hmoved.su, hmoved.pu, hmoved.pt, hmoved.ps, hmoved.phase⟩
    rw [← hmoved.tm]
    rfl
  · let u := readTaken p (readValid a w b f) w s
    let t := computation p u
    let c := sampled p (retractCheck p u)
    let v := paceStages p (retractCheck p u)
    have htaken : TakesRead s u := takesRead hquiet p w
    have huq : NothingTrips u := htaken.quiet hq
    have huclear : Clear u.ci := htaken.clear ⟨hup, hdown, hready⟩
    have hnu : NotHalted u := htaken.notHalted hn
    obtain ⟨hrec, hflags, hsu, hps, hci⟩ := rested_handed huq p
    have hplan : (handed p u).ps.plan = some p := by rw [hps]; simp [u, hp]
    have hnhanded := handed_notHalted huq hnu p
    have hvtm : v.tm = { u.tm with restHeight := v.tm.restHeight } := (rested_paceStages huq p).tm
    have hpt : t.pt = v.pt := by
      simp only [t, computation_checked, startCondition_pt, checked_eq, tripChecks_pt]
      rfl
    have hsample : t.pu.sample = some c := computation_sample p u
    have hheight : c.height = t.ci.height :=
      (sampled_height ..).trans ((height_of_measured (by simp)).trans
        (height_of_measured (computation_measured (p := p) (s := u))).symm)
    have hstall : (handed p u).tm.stall = stallAfter c s.tm := by
      show stallAfter c v.tm = _
      rw [hvtm, htaken.tm]; rfl
    have hlocal (k : Cause) (n : Option NodeNum) : localRecord k n (handed p u) =
        { cause := k, originator := p.node, remote := false, originatorLift := c.lift, ownLift := c.lift, peer := n,
          token := s.su.session.map (·.token) } := by
      have hlift : sampleLift (handed p u) = c.lift := by simp [sampleLift, handed, stallCounted, paceStages_pu, c]
      rw [localRecord, ownNode_of_plan hplan, hlift, hsu, htaken.su]
    obtain ⟨hcounted, hprev⟩ := computation_counted (p := p) huq huclear (by simp [u, hp]) hnu
    refine ⟨t, c, exec_positionReadComplete hp hread a w b f, hsample, hheight, hprev, ?_, ?_⟩
    · rw [show t.tm.stall = _ from hcounted.trans hstall]; rfl
    · intro peer stalled drifted trip
      have hpeer : peer = differentialPeer p c v.pt := by rw [differentialPeer_eq, ← hpt]
      have hstalled : stalled ↔ p.stallLimit ≤ stallAfter c v.tm := by
        have : t.tm.stall = stallAfter c v.tm := hcounted
        simp only [stalled, this]
      have hdrifted : drifted ↔ driftHolds p c v.tm = true := by
        have h := driftHolds_iff huq p
        rw [htaken.phc, htaken.tm] at h
        exact h.symm
      have hflag (x : Cause × Option NodeNum) (hx : x ∈ causesAt p u) : hasFlag t.tm.flags x.1 = true :=
        computation_hasFlag huq (by simp [u, hp]) hnu hx
      have htrip (x : Cause × Option NodeNum) (hx : (causesAt p u).head? = some x)
          (hn : x.2 = if x.1 = .differential then peer else none) : trip x.1 := by
        obtain ⟨xs, hxs⟩ := List.head?_eq_some_iff.1 hx
        obtain ⟨-, hhrec, hhph, -, hhdrive, hhbrake, hhdemand, -, hhsession, -⟩ :=
          computation_halts hxs (by rw [hplan]; rfl) hnhanded
        exact ⟨by rw [hhrec, hlocal, hn], hhph, hhsession, hhdemand, hhdrive, hhbrake⟩
      have hcauses : causesAt p u = (if peer.isSome then [(.differential, peer)] else [])
          ++ (if p.stallLimit ≤ stallAfter c v.tm then [(.stall, none)] else [])
          ++ (if driftHolds p c v.tm then [(.drift, none)] else []) := by rw [hpeer]; rfl
      refine ⟨fun h => ⟨htrip (.differential, peer) ?_ ?_, hflag (.differential, peer) ?_⟩,
        fun h => ⟨hflag (.stall, none) ?_, fun hnone => htrip (.stall, none) ?_ ?_⟩,
        fun h => ⟨hflag (.drift, none) ?_, fun hnone hnot => htrip (.drift, none) ?_ ?_⟩, fun hnone h1 h2 => ?_⟩
      · rw [hcauses]; simp [h]
      · simp
      · rw [hcauses]; simp [h]
      · rw [hcauses]; simp [hstalled.1 h]
      · rw [hcauses]; simp [hnone, hstalled.1 h]
      · simp
      · rw [hcauses]; simp [hdrifted.1 h]
      · rw [hcauses]; simp [hnone, mt hstalled.2 hnot, hdrifted.1 h]
      · simp
      · have hnil : causesAt p u = [] := by
          rw [hcauses]; simp [hnone, mt hstalled.2 h1, Bool.eq_false_iff.2 (mt hdrifted.2 h2)]
        obtain ⟨r, htm⟩ := computation_unchecked huq huclear hnu.1 hnil
        refine ⟨?_, ?_⟩
        · rw [show t.tm = _ from htm]; exact hrec.trans (by rw [htaken.tm]; exact hn.1)
        · rw [show t.tm = _ from htm]; exact hflags.trans (by rw [htaken.tm])
  · let u := readTaken p (readValid a w b f) w s
    have htaken : TakesRead s u := takesRead hquiet p w
    have huph : u.phc.phase = .halted := by rw [htaken.phc, hph]
    have hlimit : p.stallLimit ≠ 0 := by
      obtain ⟨-, -, -, -, ⟨h, -⟩, -⟩ := hrange
      omega
    obtain ⟨fl, d, htm, hfl, hphc, -, -, hdemand, -⟩ := computation_halted huph (by rwa [htaken.tm]) p
    refine ⟨computation p u, exec_positionReadComplete hp hread a w b f, ?_, ?_, ?_, ?_, ?_, hdemand⟩
    · rw [htm, htaken.tm]
    · rw [hphc, huph]
    · rw [htm, hfl hlimit, htaken.tm]
    · rw [htm]
    · rw [htm]
      exact (height_of_measured (computation_measured (p := p) (s := u))).symm
end

section
/-! PROOFS. The moves that a computation starts, and RETRACT at the parked height (R69, R72, R95, R112). -/

namespace Sys2Proof.Machine

open Sys2Proof Sys2Proof.Safety

variable {s t u : State} {p : Plan}

/-! ### The start that happens (R69, R95) -/

/-- The session is RUNNING. -/
def running (ss : Session) (s : State) : State :=
  s.withSu { s.su with session := some { ss with state := .running } }

theorem startCondition_starts {ss : Session} (hss : s.su.session = some ss) (hpending : ss.state = .pending)
    (hawaits : awaitsStart s.phc.phase ss.dir = true) (hadopted : s.ps.adopted = true)
    (hagree : SetAgrees p s.pt ss.token (startPhases ss.dir)) :
    startCondition p s = tellStarted p ss.dir (running ss s) := by
  unfold startCondition
  rw [hss]
  exact if_pos ⟨hpending, hawaits, hadopted, membershipAgreement_iff.2 hagree⟩

theorem aboveParked_eq (p : Plan) (ci : ColumnInterface) :
    aboveParked p ci = !(ci.height.all fun h => h.toNat ≤ p.parked) := by
  unfold aboveParked
  cases ci.height with
  | none => rfl
  | some h => by_cases hle : h.toNat ≤ p.parked <;> simp [hle, Nat.not_lt.2, Nat.lt_of_not_le]

/-- What a move leaves that nothing holds back (R52, R69, R120, R128). -/
theorem changePhase_moves {new : Phase} (hnew : isMoving new = true) (hold : isMoving s.phc.phase = false)
    (hc : Clear s.ci) (hr : s.tm.record = none) (hq : NothingTrips s) :
    (changePhase new s).su = s.su ∧ (changePhase new s).phc.phase = new
      ∧ (changePhase new s).phc.lastStop = s.phc.lastStop ∧ (changePhase new s).pu.demand = s.pu.demand
      ∧ (changePhase new s).ci.driveEnable = true ∧ (changePhase new s).ci.brakeRelease = true
      ∧ (changePhase new s).pu = paceAt s.phc.phase new s.pu
      ∧ (changePhase new s).ci.contactHeight = (if new = .retract then none else s.ci.contactHeight) := by
  rw [changePhase_clear hnew hold hc hr hq]
  refine ⟨by simp, by simp, by simp, ?_, rfl, rfl, by simp [enterPhase_pu], rfl⟩
  simp only [State.withCi_pu, enterPhase_pu, paceAt_demand]

theorem paceAt_pacing {new : Phase} (hnew : isPacing new = true) (old : Phase) (pu : PaceUnit) :
    (paceAt old new pu).step = 0 ∧ (paceAt old new pu).windowSum = 0 ∧ (paceAt old new pu).windowCount = 0
      ∧ (paceAt old new pu).sync = .acquire := by
  simp [paceAt, hnew]

/-! ### A computation in a phase that does not move (R112) -/

theorem unpaced_of_resting {ph : Phase} (h : isMoving ph = false) : isPacing ph = false := by
  cases ph <;> simp_all [isMoving, isPacing]

/-- At rest a computation gives the demand 0, and leaves the rest of the Pace Unit. -/
theorem paceStages_resting (h : isMoving s.phc.phase = false) (p : Plan) :
    (paceStages p s).phc = s.phc ∧ (paceStages p s).su = s.su ∧ (paceStages p s).ci = sendWord 0 s.ci
      ∧ (paceStages p s).tm = s.tm ∧ (sampled p s).phase = s.phc.phase ∧ (sampled p s).demand = 0
      ∧ (paceStages p s).pu = { s.pu with
          demand := 0, clamped := false, sample := some (sampled p s), lifting := (paceStages p s).pu.lifting } := by
  have hstood := stood_unpaced (unpaced_of_resting h) p
  have hgiven : given p s = giveDemand (0, false) s := by rw [given, hstood, demandOf_rest h]
  refine ⟨?_, ?_, ?_, ?_, ?_, ?_, ?_⟩
  · simp [paceStages_eq, publish, hgiven]
  · simp [paceStages_eq, publish, hgiven]
  · rw [(plain_paceStages p s).1, hgiven]; rfl
  · rw [(plain_paceStages p s).2.2, hgiven]; rfl
  · rw [sampled_phase, hstood]
  · rw [sampled_demand, hstood, demandOf_rest h]
  · rw [paceStages_pu, hgiven]; rfl

theorem sendWord_drive (w : Word) (ci : ColumnInterface) : (sendWord w ci).driveEnable = ci.driveEnable
    ∧ (sendWord w ci).brakeRelease = ci.brakeRelease ∧ (sendWord w ci).contactHeight = ci.contactHeight := by
  rcases sendWord_cases w ci with ⟨-, e⟩ | ⟨-, e⟩ <;> rw [e] <;> exact ⟨rfl, rfl, rfl⟩

/-- A computation after which no halt is recorded found nothing at its checks. -/
theorem causesAt_of_record_none (hq : NothingTrips s) (hp : s.ps.plan = some p) (hn : NotHalted s)
    (h : (computation p s).tm.record = none) : causesAt p s = [] := by
  cases hcauses : causesAt p s with
  | nil => rfl
  | cons x xs =>
    have hplan : (handed p s).ps.plan.isSome = true := by rw [(rested_handed hq p).2.2.2.1, hp]; rfl
    have hrec := (computation_halts hcauses hplan (handed_notHalted hq hn p)).2.1
    rw [h] at hrec
    cases hrec

/-- The phase, the direction and the height at which a start leads to a phase (R69). -/
def LeadsTo (p : Plan) (d : Direction) (s : State) (new : Phase) : Prop :=
  (d = .up ∧ s.phc.phase = .contact ∧ new = .lift) ∨ (d = .down ∧ s.phc.phase = .hold ∧ new = .lower)
    ∨ (d = .down ∧ s.phc.phase = .idle ∧ aboveParked p s.ci = true ∧ new = .retract)

theorem tellStarted_leads {d : Direction} {new : Phase} (h : LeadsTo p d s new) :
    tellStarted p d s = changePhase new s := by
  unfold tellStarted
  rcases h with ⟨rfl, hph, rfl⟩ | ⟨rfl, hph, rfl⟩ | ⟨rfl, hph, habove, rfl⟩ <;> rw [hph]
  exact if_pos habove

/-- In IDLE at or below the parked height a start leaves the column where it is, with ARRIVED (R69). -/
theorem tellStarted_parked {d : Direction} (hd : d = .down) (hph : s.phc.phase = .idle)
    (h : aboveParked p s.ci = false) : tellStarted p d s = setLastStop .arrived s := by
  subst hd
  unfold tellStarted
  rw [hph]
  simp [h]

/-- In IDLE at or below the parked height the start condition leaves the column where it is (R69). -/
theorem startCondition_parked (hph : s.phc.phase = .idle) (h : aboveParked p s.ci = false)
    (hstop : s.phc.lastStop = .arrived) : (startCondition p s).phc = s.phc ∧ (startCondition p s).ci = s.ci
      ∧ (startCondition p s).tm = s.tm ∧ (startCondition p s).pu = s.pu := by
  rcases startCondition_cases p s with e | ⟨ss, -, -, -, hawaits, -, e⟩
  · rw [e]; exact ⟨rfl, rfl, rfl, rfl⟩
  · have hdown : ss.dir = .down := by
      cases hd : ss.dir with
      | up => rw [hd, hph] at hawaits; simp [awaitsStart] at hawaits
      | down => rfl
    rw [e.trans (tellStarted_parked (s := running ss s) hdown hph h)]
    refine ⟨?_, rfl, rfl, rfl⟩
    rw [setLastStop, State.withPhc_phc, ← hstop]; rfl

/-- A computation of a resting column hands on its phase, and the demand 0 (R112). -/
theorem handed_resting (h : isMoving s.phc.phase = false) (p : Plan) :
    (handed p s).phc = s.phc ∧ (handed p s).ci = sendWord 0 s.ci ∧ (handed p s).pu.demand = 0
      ∧ (handed p s).pu.sync = s.pu.sync := by
  have haway : retractCheck p s = s := retractCheck_away (fun e => by rw [e] at h; cases h) p
  obtain ⟨hphc, -, hci, -, -, -, hpu⟩ := paceStages_resting h p
  simp only [handed, stallCounted, haway, State.withTm_phc, State.withTm_ci, State.withTm_pu]
  exact ⟨hphc, hci, by rw [hpu], by rw [hpu]⟩

/-- A computation of a resting column that no check halts starts the move that the whole set agrees on (R69, R95). -/
theorem computation_starts {ss : Session} (h : isMoving s.phc.phase = false) (hp : s.ps.plan = some p)
    (hq : NothingTrips s) (hn : NotHalted s) (hss : s.su.session = some ss) (hpending : ss.state = .pending)
    (hawaits : awaitsStart s.phc.phase ss.dir = true) (hadopted : s.ps.adopted = true)
    (hagree : SetAgrees p s.pt ss.token (startPhases ss.dir)) (hnone : (computation p s).tm.record = none) :
    computation p s = tellStarted p ss.dir (running ss (handed p s)) := by
  obtain ⟨-, -, hsu, hps, -⟩ := rested_handed hq p
  have haway : retractCheck p s = s := retractCheck_away (fun e => by rw [e] at h; cases h) p
  have hpt : (handed p s).pt = (paceStages p s).pt := by rw [handed, haway]; rfl
  rw [computation_passes (causesAt_of_record_none hq hp hn hnone)]
  exact startCondition_starts (by rw [hsu, hss]) hpending (by rwa [(handed_resting h p).1]) (by rwa [hps])
    (by rw [hpt]; exact setAgrees_paceStages.2 hagree)

/-! ### RETRACT at and above the parked height (R72, R112) -/

/-- A computation in RETRACT at or below the parked height parks the column (R72). -/
theorem computation_parks {h : Word} (hrange : PlanInRange p) (hq : NothingTrips s) (hn : NotHalted s)
    (hph : s.phc.phase = .retract) (hh : s.ci.height = some h) (hle : h.toNat ≤ p.parked) :
    (computation p s).phc.phase = .idle ∧ (computation p s).phc.lastStop = .arrived
      ∧ (sampled p (retractCheck p s)).phase = .idle ∧ (sampled p (retractCheck p s)).demand = 0
      ∧ (computation p s).pu.demand = 0 ∧ heldValue (computation p s).ci = 0 ∧ (computation p s).tm.record = none
      ∧ (computation p s).ci.driveEnable = false ∧ (computation p s).ci.brakeRelease = false
      ∧ (computation p s).tm.restHeight = some h := by
  have hlow : aboveParked p s.ci = false := by simp [aboveParked, hh, hle]
  let v := stoppedAt .idle s
  have hv : retractCheck p s = v := by rw [retractCheck_eq hq, if_pos ⟨hph, by rw [hh]; rfl, hlow⟩]
  have hvph : v.phc.phase = .idle := by simp [v, stoppedAt]
  obtain ⟨hphc, -, hci, htm, hsphase, hdemand, hpu⟩ := paceStages_resting (s := v) (by rw [hvph]; rfl) p
  have hnil : causesAt p s = [] := by
    have hlimit : ¬ p.stallLimit = 0 := by
      obtain ⟨-, -, -, -, ⟨h, -⟩, -⟩ := hrange
      omega
    have hpeer : differentialPeer p (sampled p v) (paceStages p v).pt = none := by
      simp [differentialPeer, hsphase, hvph, isLoaded]
    have hstall : stallAfter (sampled p v) (paceStages p v).tm = 0 := by simp [stallAfter, hdemand]
    have hdrift : driftHolds p (sampled p v) (paceStages p v).tm = false := by
      have hiff := driftHolds_iff hq p
      rw [hv] at hiff
      rw [Bool.eq_false_iff]
      intro hdrift
      obtain ⟨-, hsame, -⟩ := hiff.1 hdrift
      rw [hsphase, hvph, hph] at hsame
      cases hsame
    rw [causesAt, hv]
    simp [checkCauses, hpeer, hstall, hdrift, hlimit]
  have hhanded : (handed p s).phc = v.phc ∧ (handed p s).ci = sendWord 0 v.ci := by
    rw [handed, hv]; exact ⟨hphc, hci⟩
  have hhandedLow : aboveParked p (handed p s).ci = false := by
    rw [aboveParked_eq, height_of_measured (rested_handed hq p).2.2.2.2, ← aboveParked_eq, hlow]
  obtain ⟨h1, h2, h3, h4⟩ := startCondition_parked (s := handed p s) (p := p) (by rw [hhanded.1, hvph]) hhandedLow
    (by rw [hhanded.1]; simp [v, stoppedAt, setLastStop])
  rw [computation_passes hnil, h1, h2, h3, h4, hv, hsphase, hdemand, hhanded.1, hhanded.2]
  obtain ⟨henable, hbrake, -⟩ := sendWord_drive 0 v.ci
  refine ⟨hvph, by simp [v, stoppedAt, setLastStop], hvph, rfl, ?_, heldValue_sendWord 0 (safeDrive_transfer _),
    (rested_handed hq p).1.trans hn.1, ?_, ?_, ?_⟩
  · rw [handed, hv]; exact congrArg PaceUnit.demand hpu
  · rw [henable]; simp [v, stoppedAt]
  · rw [hbrake]; simp [v, stoppedAt]
  · rw [handed, hv]
    refine (congrArg TripMonitor.restHeight htm).trans ?_
    simp [v, stoppedAt, setLastStop, isResting, hh]

/-- A computation in RETRACT above the parked height goes on at the retract speed (R72, R112). -/
theorem computation_retracts (hq : NothingTrips s) (hp : s.ps.plan = some p) (hn : NotHalted s)
    (hph : s.phc.phase = .retract) (habove : aboveParked p s.ci = true) :
    (sampled p (retractCheck p s)).phase = .retract ∧ (sampled p (retractCheck p s)).demand = -(p.retract : Int)
      ∧ (computation p s).phc.lastStop = s.phc.lastStop
      ∧ ((computation p s).tm.record = none →
          (computation p s).phc.phase = .retract ∧ (computation p s).pu.demand = -(p.retract : Int)) := by
  have hv : retractCheck p s = s := by rw [retractCheck_eq hq, if_neg (by simp [habove])]
  have hstood : stood p s = s := stood_unpaced (by rw [hph]; rfl) p
  have hdemandOf : demandOf p s (setSpeed p s) (lineView p s).lead = (-(p.retract : Int), false) := by
    simp [demandOf, hph]
  have hgiven : given p s = giveDemand (-(p.retract : Int), false) s := by rw [given, hstood, hdemandOf]
  have hphc : (handed p s).phc = s.phc := by rw [handed, hv]; simp [stallCounted, paceStages_eq, publish, hgiven]
  have hpu : (handed p s).pu.demand = -(p.retract : Int) := by
    rw [handed, hv]; exact (plain_paceStages p s).2.1.trans (by rw [hgiven]; rfl)
  have haway : startCondition p (handed p s) = handed p s :=
    startCondition_away (ph := .retract) (by rw [hphc, hph]) (by simp) (by simp) (by simp) p
  refine ⟨by rw [hv, sampled_phase, hstood, hph], by rw [hv, sampled_demand, hstood, hdemandOf], ?_, fun hnone => ?_⟩
  · cases h : causesAt p s with
    | nil => rw [computation_passes h, haway, hphc]
    | cons x xs =>
      have hplan : (handed p s).ps.plan.isSome = true := by rw [(rested_handed hq p).2.2.2.1, hp]; rfl
      rw [(computation_halts h hplan (handed_notHalted hq hn p)).1, (tripChecks_stands _ _).2.2, hphc]
  · rw [computation_passes (causesAt_of_record_none hq hp hn hnone), haway, hphc]
    exact ⟨hph, hpu⟩

end Sys2Proof.Machine

open Sys2Proof Sys2Proof.Machine Sys2Proof.Safety

/-- Settles O32: only a start condition that holds starts a move, one that holds starts it, and RETRACT ends parked. -/
theorem startNeedsWholeSet : Obligations.StartNeedsWholeSet := by
  refine ⟨fun c s t hexec hcase => ?_, fun c s t ss ss' hexec hadopted hss hpending hss' =>
      exec_pending hexec hadopted hss hpending ss' hss',
    fun s p ss a w b f hp hrange hread hn hq hup hdown hready hquiet hss hpending hadopted hcase => ?_,
    fun s p a w b f hp hrange hread hn hq hquiet hph hheight => ?_⟩
  · rcases hcase with ⟨hs, ht⟩ | ⟨hs, ht⟩
    · obtain ⟨hread, p, ss, hp, hss, hpending, hadopted, hstranger, hmembers⟩ :=
        exec_leads (ph := .lift) rfl (by simp [hs]) hexec ht
      refine ⟨hread, p, ss, hp, hss, hpending, hadopted, hstranger, fun j hj hown => ?_⟩
      obtain ⟨r, ⟨hlive, hreport, hhalt, htoken⟩, hphase⟩ := hmembers j hj hown
      exact ⟨r, hlive, hreport, hhalt, htoken, by simpa [startPhases, hs] using hphase⟩
    · obtain ⟨hread, p, ss, hp, hss, hpending, hadopted, hstranger, hmembers⟩ :=
        exec_leads (ph := .lower) rfl (by simp [hs]) hexec ht
      refine ⟨hread, p, ss, hp, hss, hpending, hadopted, hstranger, fun j hj hown => ?_⟩
      obtain ⟨r, ⟨hlive, hreport, hhalt, htoken⟩, hphase⟩ := hmembers j hj hown
      exact ⟨r, hlive, hreport, hhalt, htoken, by simpa [startPhases, hs] using hphase⟩
  · let u := readTaken p (readValid a w b f) w s
    let t := computation p u
    have htaken : TakesRead s u := takesRead hquiet p w
    have huq : NothingTrips u := htaken.quiet hq
    have hnu : NotHalted u := htaken.notHalted hn
    have hpu : u.ps.plan = some p := by rw [htaken.ps, hp]
    have hcases : (ss.dir = .up ∧ s.phc.phase = .contact) ∨ (ss.dir = .down ∧ s.phc.phase = .hold)
        ∨ (ss.dir = .down ∧ s.phc.phase = .idle) := by
      rcases hcase with ⟨hd, hph, -⟩ | ⟨hd, hph | hph, -⟩ <;> simp [hd, hph]
    have hrest : isMoving u.phc.phase = false := by
      rw [htaken.phc]; rcases hcases with ⟨-, e⟩ | ⟨-, e⟩ | ⟨-, e⟩ <;> rw [e] <;> rfl
    refine ⟨t, exec_positionReadComplete hp hread a w b f, fun hnone => ?_⟩
    have hstart : t = tellStarted p ss.dir (running ss (handed p u)) :=
      computation_starts hrest hpu huq hnu (by rw [htaken.su, hss]) hpending
        (by rw [htaken.phc]; rcases hcases with ⟨hd, e⟩ | ⟨hd, e⟩ | ⟨hd, e⟩ <;> rw [hd, e] <;> rfl)
        (by rw [htaken.ps, hadopted])
        (by rw [htaken.pt]; rcases hcase with ⟨hd, -, h⟩ | ⟨hd, -, h⟩ <;> rw [hd] <;> exact h) hnone
    obtain ⟨hphc, hci, hdemand, hsync⟩ := handed_resting hrest p
    obtain ⟨hrec, -, -, -, hmeasured⟩ := rested_handed huq p
    rw [htaken.phc] at hphc
    rw [htaken.pu] at hsync
    let r := running ss (handed p u)
    have hquiet : NothingTrips r := nothingTrips_of_measured (s := u) (t := r) hmeasured huq
    have hclear : Clear r.ci := clear_of_measured hmeasured (htaken.clear ⟨hup, hdown, hready⟩)
    have hheight : t.ci.height = r.ci.height :=
      height_of_measured ((computation_measured (p := p) (s := u)).trans hmeasured.symm)
    have habove : aboveParked p r.ci = !(t.ci.height.all fun h => h.toNat ≤ p.parked) := by rw [hheight, aboveParked_eq]
    obtain ⟨hdrive, -, hcontact⟩ := sendWord_drive 0 u.ci
    have hrphase : r.phc.phase = s.phc.phase := congrArg PhaseController.phase hphc
    by_cases hparked : s.phc.phase = .idle ∧ (t.ci.height.all fun h => h.toNat ≤ p.parked) = true
    · obtain ⟨hidle, hlow⟩ := hparked
      have hdirection : ss.dir = .down := by
        rcases hcases with ⟨-, e⟩ | ⟨h, -⟩ | ⟨h, -⟩
        · rw [hidle] at e; cases e
        · exact h
        · exact h
      have ht : t = setLastStop .arrived r :=
        hstart.trans (tellStarted_parked hdirection (hrphase.trans hidle) (by rw [habove, hlow]; rfl))
      rw [if_pos ⟨hidle, hlow⟩, ht]
      refine ⟨rfl, hdemand, hrphase.trans hidle, rfl, ?_⟩
      exact (congrArg ColumnInterface.driveEnable hci).trans (hdrive.trans htaken.drive)
    · let new : Phase := if s.phc.phase = .contact then .lift else if s.phc.phase = .hold then .lower else .retract
      have hleads : LeadsTo p ss.dir r new := by
        rcases hcases with ⟨hd, e⟩ | ⟨hd, e⟩ | ⟨hd, e⟩
        · exact .inl ⟨hd, hrphase.trans e, by simp [new, e]⟩
        · exact .inr (.inl ⟨hd, hrphase.trans e, by simp [new, e]⟩)
        · refine .inr (.inr ⟨hd, hrphase.trans e, ?_, by simp [new, e]⟩)
          rw [habove]
          simpa [e] using hparked
      have hnew : isMoving new = true := by rcases hcases with ⟨-, e⟩ | ⟨-, e⟩ | ⟨-, e⟩ <;> simp [new, e, isMoving]
      have hretract : new = .retract ↔ s.phc.phase = .idle := by
        rcases hcases with ⟨-, e⟩ | ⟨-, e⟩ | ⟨-, e⟩ <;> simp [new, e]
      have hpacing : s.phc.phase ≠ .idle → isPacing new = true := by
        intro hne
        rcases hcases with ⟨-, e⟩ | ⟨-, e⟩ | ⟨-, e⟩
        · simp [new, e, isPacing]
        · simp [new, e, isPacing]
        · exact absurd e hne
      obtain ⟨hsu, hphase, hstop, hdem, henable, hbrake, hpace, hheld⟩ := changePhase_moves (s := r) hnew
        (by rw [hrphase, ← htaken.phc]; exact hrest) hclear (hrec.trans hnu.1) hquiet
      rw [if_neg hparked, show t = changePhase new r from hstart.trans (tellStarted_leads hleads)]
      refine ⟨by rw [hsu]; rfl, hdem.trans hdemand, hphase, hstop.trans (congrArg PhaseController.lastStop hphc),
        henable, hbrake, fun hne => ?_, ?_, ?_⟩
      · obtain ⟨h1, h2, h3, -⟩ := paceAt_pacing (hpacing hne) r.phc.phase r.pu
        rw [hpace]
        exact ⟨h1, h2, h3⟩
      · rw [hpace]
        split
        · next e => rw [hrphase, e, hretract.2 e]; exact hsync
        · next hne => exact (paceAt_pacing (hpacing hne) r.phc.phase r.pu).2.2.2
      · rw [hheld]
        exact if_congr hretract rfl ((congrArg ColumnInterface.contactHeight hci).trans
          (hcontact.trans htaken.contactHeight))
  · let u := readTaken p (readValid a w b f) w s
    let t := computation p u
    have htaken : TakesRead s u := takesRead hquiet p w
    have huq : NothingTrips u := htaken.quiet hq
    have hnu : NotHalted u := htaken.notHalted hn
    have hpu : u.ps.plan = some p := by rw [htaken.ps, hp]
    have huph : u.phc.phase = .retract := by rw [htaken.phc, hph]
    obtain ⟨h, huh⟩ := Option.isSome_iff_exists.1 (htaken.height hheight)
    have hth : t.ci.height = some h := (height_of_measured (computation_measured (p := p) (s := u))).trans huh
    have habove : aboveParked p u.ci = decide (p.parked < h.toNat) := by simp [aboveParked, huh]
    refine ⟨t, sampled p (retractCheck p u), h, exec_positionReadComplete hp hread a w b f, computation_sample p u, hth,
      fun hle => ?_, fun hlt => ?_⟩
    · exact computation_parks hrange huq hnu huph huh hle
    · rw [← htaken.phc]
      exact computation_retracts huq hpu hnu huph (by rw [habove]; simpa using hlt)
end

section
/-! PROOFS. Writes over the service line and the line's own events (R169, R173 to R176, R181). -/

namespace Sys2Proof.Machine

open Sys2Proof Sys2Proof.Safety

variable {s : State}

/-! ### Writes (R169, R175, R176) -/

/-- The service line once a write to an address has been received and echoed. -/
def addressed (a : Word) (v : Byte) (s : State) : State :=
  { s with sp := { s.sp with pointer := a, echo := some v, reply := [], secondRead := false } }

theorem withPointer_echoByte (hp : s.sp.parser = []) (a : Word) (v : Byte) :
    withPointer a (echoByte v [] s) = addressed a v s := by
  simp [withPointer, echoByte, addressed, State.withSp, hp]

theorem actCommand_poke {t : State} (h : t.ps.op = .none) (a : Word) (v : Byte) :
    actCommand (.poke a v) t = doPoke a v t := by
  simp [actCommand, planBusy, h]

theorem actCommand_pokeOn {t : State} (h : t.ps.op = .none) (v : Byte) : actCommand (.pokeOn v) t = doPokeOn v t := by
  simp [actCommand, planBusy, h]

/-- POKE and POKE_ON write at their address and answer nothing but the echo (R175). -/
theorem exec_write {c : Instr} {a : Word} {v : Byte} (hop : s.ps.op = .none) (hp : s.sp.parser = [])
    (hb : s.sp.breakHeld = false) (hc : c = .poke a v ∨ (c = .pokeOn v ∧ a = s.sp.pointer + 1)) :
    exec c s = .next (withReply [] (writeAddress a.toNat v (addressed a v s))) := by
  rw [← withPointer_echoByte hp]
  rcases hc with rfl | ⟨rfl, rfl⟩
  · have h := exec_service (k := .poke a v) hp hb
    rwa [actCommand_poke (t := echoByte _ [] s) hop] at h
  · have h := exec_service (k := .pokeOn v) hp hb
    rwa [actCommand_pokeOn (t := echoByte _ [] s) hop] at h

/-- A write is refused outside the image and the event bytes, and in the image when it is not permitted (R169, R176). -/
theorem writeAddress_refused {a : Nat} (v : Byte)
    (h : (a < 256 ∧ planPermitted s = false) ∨ (256 ≤ a ∧ a < 0x520) ∨ 0x524 ≤ a) :
    writeAddress a v s = latchEvent .writeRefused s := by
  unfold writeAddress writePlan
  rcases h with ⟨h1, h2⟩ | ⟨h1, h2⟩ | h1
  · simp [h1, h2]
  · rw [if_neg (by omega), if_neg (by omega), if_neg (by omega), if_neg (by omega), if_neg (by omega)]
  · rw [if_neg (by omega), if_neg (by omega), if_neg (by omega), if_neg (by omega), if_neg (by omega)]

theorem writeAddress_image {a : Nat} (v : Byte) (ha : a < 256) (h : planPermitted s = true) : writeAddress a v s =
    s.withPs { s.ps with image := s.ps.image.write a v, adopted := false, fingerprint := none } := by
  simp [writeAddress, writePlan, ha, h]

/-! ### The event bytes (R180, R181) -/

theorem getLsbD_top (i : Nat) : (0x100#9).getLsbD i = decide (i = 8) := by
  rw [show 0x100#9 = BitVec.twoPow 9 8 from rfl, BitVec.getLsbD_twoPow]
  simp [eq_comm]

theorem getLsbD_belowTop {i : Nat} (hi : i < 9) : (0x0FF#9).getLsbD i = decide (i ≠ 8) := by
  rw [show 0x0FF#9 = ~~~(0x100#9) from rfl, BitVec.getLsbD_not, getLsbD_top]
  simp [hi]

/-- ATTN is asserted while an event is both latched and enabled (R181). -/
theorem attention_iff (s : State) :
    attention s = true ↔ ∃ i : Nat, i < 9 ∧ s.sp.latch.getLsbD i = true ∧ s.sp.mask.getLsbD i = true := by
  unfold attention
  rw [bne_iff_ne, ne_eq, BitVec.eq_of_getLsbD_eq_iff]
  simp

/-! ### The parser (R173 to R175) -/

theorem exec_serviceByte (b : Byte) (s : State) : exec (.serviceByteReceived b) s = .next (receiveByte b s) := rfl

/-- A code with operands to come is echoed and kept (R173, R175). -/
theorem receiveByte_peek (hp : s.sp.parser = []) (hb : s.sp.breakHeld = false) :
    receiveByte 0x11 s = echoByte 0x11 [0x11] s := by
  simp [receiveByte, hp, hb, operandCount]

theorem receiveByte_peek_high {t : State} (hp : t.sp.parser = [0x11]) (hb : t.sp.breakHeld = false) (hi : Byte) :
    receiveByte hi t = echoByte hi [0x11, hi] t := by
  simp [receiveByte, hp, hb, operandCount]

/-- The second operand byte completes the PEEK, which acts (R175). -/
theorem receiveByte_peek_low {t : State} {hi : Byte} (hp : t.sp.parser = [0x11, hi]) (hb : t.sp.breakHeld = false)
    (lo : Byte) : receiveByte lo t = actCommand (.peek (hi ++ lo)) (echoByte lo [] t) := by
  simp [receiveByte, hp, hb, operandCount, commandOf, wordOf]

theorem operandCount_unknown {code : Byte} (h : serviceCodes.contains code = false) : operandCount code = none := by
  simp only [serviceCodes, List.contains_eq_mem, decide_eq_false_iff_not, List.mem_cons, List.not_mem_nil, or_false,
    not_or] at h
  obtain ⟨h1, h2, h3, h4, h5, h6, h7, h8⟩ := h
  unfold operandCount
  rw [if_neg h1, if_neg h2, if_neg h4, if_neg (by rintro (h | h | h | h | h) <;> contradiction)]

theorem receiveByte_unknown {code : Byte} (h : serviceCodes.contains code = false) (hp : s.sp.parser = [])
    (hb : s.sp.breakHeld = false) : receiveByte code s = echoByte code [] s := by
  simp [receiveByte, hp, hb, operandCount_unknown h]

/-- Between a break and its echo no byte is taken (R174). -/
theorem receiveByte_held (hb : s.sp.breakHeld = true) (b : Byte) : receiveByte b s = s := by
  simp [receiveByte, hb]

end Sys2Proof.Machine

open Sys2Proof Sys2Proof.Machine Sys2Proof.Safety

/-- Settles O52: the writes into the image, the refused ones, and the latch and the mask. -/
theorem serviceWrites : Obligations.ServiceWrites := by
  refine ⟨fun s a v hop hp hb hwf c hc => ⟨fun ha hpermitted => ?_, fun hrefused => ?_⟩, fun s v hop hp hb => ?_⟩
  · refine ⟨_, exec_write hop hp hb hc, ?_⟩
    rw [writeAddress_image (s := addressed a v s) v ha hpermitted]
    exact ⟨fun b => Memory.read_write hwf _ b v, Memory.write_wf hwf v ha, rfl, rfl, rfl, rfl,
      rfl, rfl, rfl, rfl, rfl, rfl, rfl, rfl⟩
  · rw [exec_write hop hp hb hc, writeAddress_refused (s := addressed a v s) v hrefused]
    rfl
  · have hexec (a : Word) : exec (.poke a v) s = .next (withReply [] (writeAddress a.toNat v (addressed a v s))) :=
      exec_write hop hp hb (.inl rfl)
    refine ⟨⟨_, hexec 0x520, rfl, fun i hi => ?_, ?_⟩, ⟨_, hexec 0x521, rfl, fun i hi => ?_, ?_⟩,
      ⟨_, hexec 0x522, rfl, fun i hi => ?_, ?_⟩, ⟨_, hexec 0x523, rfl, fun i hi => ?_, ?_⟩, ?_⟩
    · show (s.sp.latch &&& ~~~(v.setWidth 9)).getLsbD i = _
      simp [Nat.lt_succ_of_lt hi]
    · show (s.sp.latch &&& ~~~(v.setWidth 9)).getLsbD 8 = _
      simp
    · show ((s.sp.mask &&& 0x100#9) ||| v.setWidth 9).getLsbD i = _
      simp only [BitVec.getLsbD_or, BitVec.getLsbD_and, getLsbD_top, BitVec.getLsbD_setWidth]
      simp [Nat.ne_of_lt hi, Nat.lt_succ_of_lt hi]
    · show ((s.sp.mask &&& 0x100#9) ||| v.setWidth 9).getLsbD 8 = _
      simp only [BitVec.getLsbD_or, BitVec.getLsbD_and, getLsbD_top, BitVec.getLsbD_setWidth]
      simp
    · show (if v.getLsbD 0 then s.sp.latch &&& 0x0FF#9 else s.sp.latch).getLsbD i = _
      split
      · simp only [BitVec.getLsbD_and, getLsbD_belowTop (Nat.lt_succ_of_lt hi)]
        simp [Nat.ne_of_lt hi]
      · rfl
    · show (if v.getLsbD 0 then s.sp.latch &&& 0x0FF#9 else s.sp.latch).getLsbD 8 = _
      split
      · next h => simp only [BitVec.getLsbD_and, getLsbD_belowTop (show 8 < 9 by omega), h]; simp
      · next h => rw [Bool.eq_false_iff.2 h]; simp
    · show ((s.sp.mask &&& 0x0FF#9) ||| (if v.getLsbD 0 then 0x100#9 else 0#9)).getLsbD i = _
      simp only [BitVec.getLsbD_or, BitVec.getLsbD_and, getLsbD_belowTop (Nat.lt_succ_of_lt hi)]
      split <;> simp [getLsbD_top, Nat.ne_of_lt hi]
    · show ((s.sp.mask &&& 0x0FF#9) ||| (if v.getLsbD 0 then 0x100#9 else 0#9)).getLsbD 8 = _
      simp only [BitVec.getLsbD_or, BitVec.getLsbD_and, getLsbD_belowTop (show 8 < 9 by omega)]
      split
      · next h => simp only [getLsbD_top, h]; simp
      · next h => rw [Bool.eq_false_iff.2 h]; simp
    · exact attention_iff s

/-- Settles O53: PEEK byte by byte, and the unknown code, the framing error, the break and its echo. -/
theorem serviceLineEvents : Obligations.ServiceLineEvents := by
  refine ⟨fun s hi lo hp hb => ?_, fun s code sent => ⟨fun hcode hp hb => ?_, fun hb => ?_, ?_⟩⟩
  · let s1 := echoByte 0x11 [0x11] s
    let s2 := echoByte hi [0x11, hi] s1
    refine ⟨s1, s2, ?_, rfl, ?_, rfl, ?_⟩
    · rw [exec_serviceByte, receiveByte_peek hp hb]
    · rw [exec_serviceByte, receiveByte_peek_high (t := s1) rfl hb]
    · rw [exec_serviceByte, receiveByte_peek_low (t := s2) rfl hb]
      have hbytes : commandBytes (.peek (hi ++ lo)) = [0x11, hi, lo] :=
        congrArg (0x11 :: ·) ((wordOf_iff hi lo (hi ++ lo)).1 rfl).symm
      have hpeek := exec_service (k := .peek (hi ++ lo)) hp hb
      rw [hbytes] at hpeek
      exact hpeek.symm
  · show Host.Outcome.next (receiveByte code s) = _
    rw [receiveByte_unknown hcode hp hb]
    rfl
  · simp [exec, execFramingError, hb, State.withSp]
  · refine ⟨_, rfl, rfl, fun b => ?_, rfl⟩
    exact congrArg Host.Outcome.next (receiveByte_held rfl b)

end

section
/-! PROOFS. The bytes that the service line shows: a number as a byte, its bits and its fields, the peer view and the
node status block (R41, R176, R184, R187). -/

namespace Sys2Proof.Machine

open Sys2Proof Sys2Proof.Safety

variable {s : State}

/-! ### Bits and fields of a byte -/

/-- A bit of a byte, where the number has it at its weight. -/
theorem byteOf_bit {n i : Nat} {b : Bool} (hi : i < 8) (h : n / 2 ^ i % 2 = b.toNat) : (byteOf n).getLsbD i = b := by
  rw [byteOf, BitVec.getLsbD_ofNat, Nat.testBit_eq_decide_div_mod_eq, h]
  cases b <;> simp [hi]

/-- A flag adds its weight, once or not at all. -/
theorem bitAt_eq (b : Bool) (i : Nat) : bitAt b i = 2 ^ i * b.toNat ∧ b.toNat ≤ 1 := by
  cases b <;> simp [bitAt]

theorem hiByte_append_loByte (w : Word) : hiByte w ++ loByte w = w := wordOf_wordBytes w

theorem hiByte_ofNat (n : Nat) : hiByte (BitVec.ofNat 16 n) = byteOf (n / 256) := by
  apply BitVec.eq_of_toNat_eq
  simp [hiByte, byteOf, BitVec.extractLsb'_toNat, Nat.shiftRight_eq_div_pow]
  omega

theorem loByte_ofNat (n : Nat) : loByte (BitVec.ofNat 16 n) = byteOf n := by
  apply BitVec.eq_of_toNat_eq
  simp [loByte, byteOf, BitVec.extractLsb'_toNat]

/-- Eight flags as a byte. -/
theorem byteOf_flags (b0 b1 b2 b3 b4 b5 b6 b7 : Bool) {n : Nat}
    (hn : n = bitAt b0 0 + bitAt b1 1 + bitAt b2 2 + bitAt b3 3 + bitAt b4 4 + bitAt b5 5 + bitAt b6 6 + bitAt b7 7) :
    (byteOf n).getLsbD 0 = b0 ∧ (byteOf n).getLsbD 1 = b1 ∧ (byteOf n).getLsbD 2 = b2 ∧ (byteOf n).getLsbD 3 = b3
      ∧ (byteOf n).getLsbD 4 = b4 ∧ (byteOf n).getLsbD 5 = b5 ∧ (byteOf n).getLsbD 6 = b6
      ∧ (byteOf n).getLsbD 7 = b7 := by
  obtain ⟨e0, l0⟩ := bitAt_eq b0 0
  obtain ⟨e1, l1⟩ := bitAt_eq b1 1
  obtain ⟨e2, l2⟩ := bitAt_eq b2 2
  obtain ⟨e3, l3⟩ := bitAt_eq b3 3
  obtain ⟨e4, l4⟩ := bitAt_eq b4 4
  obtain ⟨e5, l5⟩ := bitAt_eq b5 5
  obtain ⟨e6, l6⟩ := bitAt_eq b6 6
  obtain ⟨e7, l7⟩ := bitAt_eq b7 7
  rw [e0, e1, e2, e3, e4, e5, e6, e7] at hn
  refine ⟨?_, ?_, ?_, ?_, ?_, ?_, ?_, ?_⟩ <;> refine byteOf_bit (by omega) ?_ <;> omega

theorem phaseCode_lt (ph : Phase) : phaseCode ph < 16 := by cases ph <;> decide

theorem causeCode_lt (c : Cause) : causeCode c < 32 := by cases c <;> decide

/-! ### The peer view (R41, R187) -/

theorem readAddress_entry (s : State) (j : NodeNum) {i : Nat} (hi : i < 16) :
    readAddress s (0x100 + 16 * j.val + i) = (entryBytes (s.pt.entry j)).getD i 0 := by
  have hj := j.isLt
  have hindex : (0x100 + 16 * j.val + i - 0x100) / 16 = j.val := by omega
  have hbyte : (0x100 + 16 * j.val + i - 0x100) % 16 = i := by omega
  have hnode : Fin.ofNat 64 j.val = j := Fin.ext (Nat.mod_eq_of_lt hj)
  rw [readAddress, if_neg (by omega), if_pos (by omega), hindex, hbyte, hnode]

/-- The head of a peer view entry: the state's code and three flags. -/
theorem entryHead_shows (e : EntryState) (b3 b4 b5 : Bool) {n : Nat}
    (hn : n = entryCode e + bitAt b3 3 + bitAt b4 4 + bitAt b5 5) :
    (byteOf n).toNat % 8 = entryCode e ∧ (byteOf n).getLsbD 3 = b3 ∧ (byteOf n).getLsbD 4 = b4
      ∧ (byteOf n).getLsbD 5 = b5 ∧ (byteOf n).toNat < 64 := by
  obtain ⟨e3, l3⟩ := bitAt_eq b3 3
  obtain ⟨e4, l4⟩ := bitAt_eq b4 4
  obtain ⟨e5, l5⟩ := bitAt_eq b5 5
  have hcode : entryCode e < 8 := by cases e <;> decide
  rw [e3, e4, e5] at hn
  rw [byteOf_toNat (by omega)]
  refine ⟨by omega, byteOf_bit (by omega) ?_, byteOf_bit (by omega) ?_, byteOf_bit (by omega) ?_, by omega⟩ <;> omega

/-- The tail of a peer view entry: three flags and the silence count, as far as 15. -/
theorem entryTail_shows (b0 b1 b2 : Bool) (m : Nat) {n : Nat}
    (hn : n = bitAt b0 0 + bitAt b1 1 + bitAt b2 2 + 16 * min 15 m) :
    (byteOf n).toNat / 16 = min 15 m ∧ (byteOf n).getLsbD 3 = false ∧ (byteOf n).getLsbD 0 = b0
      ∧ (byteOf n).getLsbD 1 = b1 ∧ (byteOf n).getLsbD 2 = b2 := by
  obtain ⟨e0, l0⟩ := bitAt_eq b0 0
  obtain ⟨e1, l1⟩ := bitAt_eq b1 1
  obtain ⟨e2, l2⟩ := bitAt_eq b2 2
  rw [e0, e1, e2] at hn
  rw [byteOf_toNat (by omega)]
  refine ⟨by omega, byteOf_bit (by omega) ?_, byteOf_bit (by omega) ?_, byteOf_bit (by omega) ?_,
    byteOf_bit (by omega) ?_⟩
  · simp only [Bool.toNat_false]; omega
  · omega
  · omega
  · omega

theorem stepSyncByte_toNat (k : Step) (y : SyncState) : (stepSyncByte k y).toNat = k.val + 1 + 16 * syncCode y := by
  have hk := k.isLt
  have hy := syncCode_lt y
  exact byteOf_toNat (by omega)

theorem haltByte_toNat (c : Option Cause) : (haltByte c).toNat = c.elim 0 (fun c => 128 + causeCode c) := by
  cases c with
  | none => rfl
  | some c =>
    have hc := causeCode_lt c
    rw [haltByte, byteOf_toNat (by omega)]
    exact Nat.add_comm _ _

/-- Two bytes show a token, or that there is none (R184). -/
theorem tokenBytes_shows (k : Option Token) {x y : Byte} (h : [x, y] = tokenBytes k) :
    (∀ t, k = some t → x.toNat = t.originator.val ∧ y = t.sequence) ∧ (k = none → x = 0xFF ∧ y = 0xFF) := by
  cases k with
  | none =>
    obtain ⟨rfl, rfl⟩ : x = 0xFF ∧ y = 0xFF := by simpa [tokenBytes] using h
    simp
  | some t =>
    obtain ⟨rfl, rfl⟩ : x = byteOf t.originator.val ∧ y = t.sequence := by simpa [tokenBytes] using h
    have ht := t.originator.isLt
    refine ⟨fun t' ht' => ?_, fun h => by cases h⟩
    cases ht'
    exact ⟨byteOf_toNat (by omega), rfl⟩

/-- Sixteen bytes that are those of an entry show it (R41, R187). -/
theorem showsEntry_of_bytes (e : PeerEntry) {b : Nat → Byte} (hb : ∀ i, i < 16 → b i = (entryBytes e).getD i 0) :
    ShowsEntry e b := by
  have hhead := entryHead_shows e.state e.report.isSome e.stale e.fresh rfl
  obtain ⟨hcode, hreport, hstale, hfresh, hlt⟩ := hhead
  have h0 : b 0 = byteOf (entryCode e.state + bitAt e.report.isSome 3 + bitAt e.stale 4 + bitAt e.fresh 5) :=
    hb 0 (by omega)
  rw [← h0] at hcode hreport hstale hfresh hlt
  cases hr : e.report with
  | none =>
    have hbytes : entryBytes e = byteOf (entryCode e.state + bitAt e.report.isSome 3 + bitAt e.stale 4
        + bitAt e.fresh 5) :: (List.replicate 14 0x00 ++ [byteOf (16 * min 15 e.silence)]) := by
      rw [entryBytes, hr]
    rw [hbytes] at hb
    have h15 : b 15 = byteOf (16 * min 15 e.silence) := hb 15 (by omega)
    obtain ⟨hsilence, hclear, -⟩ := entryTail_shows false false false e.silence (n := 16 * min 15 e.silence)
      (by simp [bitAt])
    rw [← h15] at hsilence hclear
    refine ⟨hcode, hr ▸ hreport, hstale, hfresh, hlt, hsilence, hclear, fun r h => ?_, fun _ => ⟨?_, ?_⟩⟩
    · rw [hr] at h; cases h
    · intro i h1 h2
      rw [hb i (by omega)]
      interval_cases i <;> rfl
    · rw [h15, byteOf_toNat (by omega)]
      omega
  | some r =>
    obtain ⟨x, y, hxy⟩ : ∃ x y, tokenBytes r.token = [x, y] := by
      cases r.token with
      | none => exact ⟨_, _, rfl⟩
      | some k => exact ⟨_, _, rfl⟩
    have hbytes : entryBytes e = byteOf (entryCode e.state + bitAt e.report.isSome 3 + bitAt e.stale 4
        + bitAt e.fresh 5) :: ([byteOf (phaseCode r.phase), stepSyncByte r.step r.sync, haltByte r.halt] ++ [x, y]
          ++ wordBytes r.lift ++ wordBytes r.height ++ wordBytes r.load ++ [r.epoch.getD 0xFF]
          ++ wordBytes r.fingerprint ++ [byteOf (bitAt r.refValid 0 + bitAt r.clamped 1
            + bitAt r.epoch.isSome 2 + 16 * min 15 e.silence)]) := by
      rw [entryBytes, hr, ← hxy]
      rfl
    rw [hbytes] at hb
    have h15 : b 15 = byteOf (bitAt r.refValid 0 + bitAt r.clamped 1 + bitAt r.epoch.isSome 2
      + 16 * min 15 e.silence) := hb 15 (by omega)
    obtain ⟨hsilence, hclear, hvalid, hclamped, hknown⟩ := entryTail_shows r.refValid r.clamped r.epoch.isSome
      e.silence rfl
    rw [← h15] at hsilence hclear hvalid hclamped hknown
    refine ⟨hcode, hr ▸ hreport, hstale, hfresh, hlt, hsilence, hclear, fun r' h => ?_, fun h => ?_⟩
    · rw [hr] at h
      obtain rfl := Option.some.inj h
      obtain ⟨htoken, hnone⟩ := tokenBytes_shows r.token hxy.symm
      have hphase := phaseCode_lt r.phase
      have h4 : b 4 = x := hb 4 (by omega)
      have h5 : b 5 = y := hb 5 (by omega)
      rw [h4, h5]
      have hword (i : Nat) (w : Word) (h1 : b i = hiByte w) (h2 : b (i + 1) = loByte w) : b i ++ b (i + 1) = w := by
        rw [h1, h2, hiByte_append_loByte]
      refine ⟨?_, ?_, ?_, htoken, hnone, hword 6 r.lift (hb 6 (by omega)) (hb 7 (by omega)),
        hword 8 r.height (hb 8 (by omega)) (hb 9 (by omega)), hword 10 r.load (hb 10 (by omega)) (hb 11 (by omega)),
        hb 12 (by omega), hword 13 r.fingerprint (hb 13 (by omega)) (hb 14 (by omega)), hvalid, hclamped, hknown⟩
      · rw [show b 1 = byteOf (phaseCode r.phase) from hb 1 (by omega), byteOf_toNat (by omega)]
      · rw [show b 2 = stepSyncByte r.step r.sync from hb 2 (by omega), stepSyncByte_toNat]
      · rw [show b 3 = haltByte r.halt from hb 3 (by omega), haltByte_toNat]
        cases r.halt <;> rfl
    · rw [hr] at h; cases h

/-! ### The node status block (R187) -/

theorem readAddress_status (s : State) {i : Nat} (hi : i < 32) :
    readAddress s (0x500 + i) = (statusBytes s).getD i 0 := by
  have hindex : 0x500 + i - 0x500 = i := by omega
  rw [readAddress, if_neg (by omega), if_neg (by omega), if_pos (by omega), hindex]

theorem phaseByte_shows (s : State) : (phaseByte s).toNat % 16 = phaseCode s.phc.phase
    ∧ (phaseByte s).toNat / 16 % 8 = stopCode s.phc.lastStop ∧ (phaseByte s).getLsbD 7 = s.ps.adopted := by
  obtain ⟨e7, l7⟩ := bitAt_eq s.ps.adopted 7
  have hphase := phaseCode_lt s.phc.phase
  have hstop : stopCode s.phc.lastStop < 8 := by cases s.phc.lastStop <;> decide
  rw [phaseByte, e7, byteOf_toNat (by omega)]
  refine ⟨by omega, by omega, byteOf_bit (by omega) (by omega)⟩

theorem sessionCode_some (ss : Session) : sessionCode (some ss) = if ss.state = .pending then 1 else 2 := by
  cases h : ss.state <;> simp [sessionCode, h]

theorem sessionByte_shows (s : State) : (sessionByte s).toNat / 4 % 4 = pressCode s.su.press
    ∧ (s.su.session = none → (sessionByte s).toNat % 4 = 0 ∧ (sessionByte s).toNat / 16 = 0)
    ∧ ∀ ss, s.su.session = some ss → (sessionByte s).toNat % 4 = (if ss.state = .pending then 1 else 2)
      ∧ (sessionByte s).getLsbD 4 = (ss.dir == .down) ∧ (sessionByte s).toNat / 32 = ss.preset.val := by
  have hpress : pressCode s.su.press < 4 := by cases s.su.press <;> simp [pressCode]
  cases hss : s.su.session with
  | none =>
    have hbyte : sessionByte s = byteOf (4 * pressCode s.su.press) := by simp [sessionByte, hss, sessionCode]
    rw [hbyte, byteOf_toNat (by omega)]
    exact ⟨by omega, fun _ => ⟨by omega, by omega⟩, fun ss h => by cases h⟩
  | some ss =>
    obtain ⟨e4, l4⟩ := bitAt_eq (ss.dir == .down) 4
    have hpreset := ss.preset.isLt
    have hstate := sessionCode_some ss
    have hcode : sessionCode (some ss) < 4 := by rw [hstate]; split <;> omega
    have hbyte : sessionByte s = byteOf (sessionCode (some ss) + 4 * pressCode s.su.press
        + (2 ^ 4 * (ss.dir == .down).toNat + 32 * ss.preset.val)) := by
      simp [sessionByte, hss, e4]
    rw [hbyte, byteOf_toNat (by omega)]
    refine ⟨by omega, fun h => (by cases h), fun ss' h => ?_⟩
    obtain rfl := Option.some.inj h
    rw [← hstate]
    exact ⟨by omega, byteOf_bit (by omega) (by omega), by omega⟩

theorem keepByte_shows (s : State) : (s.su.session = none → (keepByte s).toNat % 16 = 0)
    ∧ (∀ ss, s.su.session = some ss → (keepByte s).toNat % 16 = min 15 ss.keep)
    ∧ (keepByte s).getLsbD 4 = s.phc.startup.validRead ∧ (keepByte s).getLsbD 5 = s.phc.startup.verdict.isSome
    ∧ (keepByte s).getLsbD 6 = (s.phc.startup.verdict == some true)
    ∧ (keepByte s).getLsbD 7 = (s.tm.travelSide == some .upper) := by
  obtain ⟨e4, l4⟩ := bitAt_eq s.phc.startup.validRead 4
  obtain ⟨e5, l5⟩ := bitAt_eq s.phc.startup.verdict.isSome 5
  obtain ⟨e6, l6⟩ := bitAt_eq (s.phc.startup.verdict == some true) 6
  obtain ⟨e7, l7⟩ := bitAt_eq (s.tm.travelSide == some .upper) 7
  obtain ⟨k, hk, hbyte⟩ : ∃ k, k = s.su.session.elim 0 (fun ss => min 15 ss.keep)
      ∧ keepByte s = byteOf (k + 2 ^ 4 * s.phc.startup.validRead.toNat + 2 ^ 5 * s.phc.startup.verdict.isSome.toNat
        + 2 ^ 6 * (s.phc.startup.verdict == some true).toNat + 2 ^ 7 * (s.tm.travelSide == some .upper).toNat) := by
    refine ⟨_, rfl, ?_⟩
    rw [← e4, ← e5, ← e6, ← e7]
    unfold keepByte
    cases s.su.session <;> rfl
  have hlt : k < 16 := by rw [hk]; cases s.su.session <;> simp only [Option.elim] <;> omega
  rw [hbyte, byteOf_toNat (by omega)]
  refine ⟨fun h => ?_, fun ss h => ?_, byteOf_bit (by omega) (by omega), byteOf_bit (by omega) (by omega),
    byteOf_bit (by omega) (by omega), byteOf_bit (by omega) (by omega)⟩
  · rw [h, Option.elim_none] at hk; omega
  · rw [h, Option.elim_some] at hk; omega

/-- The code of the held direction. -/
def heldCode : Option Direction → Nat
  | none => 0
  | some .up => 1
  | some .down => 2

theorem conditionByte_shows (s : State) : (conditionByte s).getLsbD 0 = s.ci.loadSilent
    ∧ (conditionByte s).getLsbD 1 = encoderFaulty s.ci ∧ (conditionByte s).getLsbD 2 = s.ci.inputsSettled
    ∧ (conditionByte s).getLsbD 3 = s.ci.holdTimer.isSome ∧ (conditionByte s).toNat / 16 % 4 = heldCode s.ci.held
    ∧ (conditionByte s).toNat / 64 = min 3 s.ci.startSamples := by
  obtain ⟨e0, l0⟩ := bitAt_eq s.ci.loadSilent 0
  obtain ⟨e1, l1⟩ := bitAt_eq (encoderFaulty s.ci) 1
  obtain ⟨e2, l2⟩ := bitAt_eq s.ci.inputsSettled 2
  obtain ⟨e3, l3⟩ := bitAt_eq s.ci.holdTimer.isSome 3
  have hlt : heldCode s.ci.held < 3 := by
    cases s.ci.held with
    | none => decide
    | some d => cases d <;> decide
  have hbyte : conditionByte s = byteOf (2 ^ 0 * s.ci.loadSilent.toNat + 2 ^ 1 * (encoderFaulty s.ci).toNat
      + 2 ^ 2 * s.ci.inputsSettled.toNat + 2 ^ 3 * s.ci.holdTimer.isSome.toNat + 16 * heldCode s.ci.held
      + 64 * min 3 s.ci.startSamples) := by
    rw [← e0, ← e1, ← e2, ← e3]
    rfl
  rw [hbyte, byteOf_toNat (by omega)]
  exact ⟨byteOf_bit (by omega) (by omega), byteOf_bit (by omega) (by omega), byteOf_bit (by omega) (by omega),
    byteOf_bit (by omega) (by omega), by omega, by omega⟩

theorem runsByte_shows (s : State) : (runsByte s).toNat % 4 = min 3 s.ci.contactRun
    ∧ (runsByte s).toNat / 4 % 4 = min 3 s.ci.unloadRun ∧ (runsByte s).toNat / 16 % 4 = min 3 s.ci.lossRun
    ∧ (runsByte s).toNat / 64 = min 3 s.ci.overloadRun := by
  rw [runsByte, byteOf_toNat (by omega)]
  omega

/-- The code of the last store status. -/
def storeCode : Option (Fin 3) → Nat
  | some st => st.val + 1
  | none => 0

/-- The number of the levels' lower byte. -/
def levelsLow (s : State) : Nat :=
  bitAt (s.ci.levels.estop == some true) 0 + bitAt (s.ci.levels.limitUp == some true) 1
    + bitAt (s.ci.levels.limitDown == some true) 2 + bitAt (s.ci.levels.nut == some true) 3
    + bitAt (s.ci.levels.driveReady == some true) 4 + bitAt (s.ci.levels.driveFault == some true) 5
    + bitAt (s.ci.levels.up == some true) 6 + bitAt (s.ci.levels.down == some true) 7

/-- The number of the levels' upper byte. -/
def levelsHigh (s : State) : Nat :=
  bitAt (s.ci.levels.stop == some true) 0 + bitAt (s.ci.levels.resetReq == some true) 1
    + bitAt (s.ci.levels.preset0 == some true) 2 + bitAt (s.ci.levels.preset1 == some true) 3
    + bitAt (s.ci.levels.preset2 == some true) 4 + bitAt (s.ps.op == .store) 5 + 64 * storeCode s.ps.storeStatus

theorem levelsLow_lt (s : State) : levelsLow s < 256 := by
  have h (b : Bool) (i : Nat) : bitAt b i ≤ 2 ^ i := by cases b <;> simp [bitAt]
  have h0 := h (s.ci.levels.estop == some true) 0
  have h1 := h (s.ci.levels.limitUp == some true) 1
  have h2 := h (s.ci.levels.limitDown == some true) 2
  have h3 := h (s.ci.levels.nut == some true) 3
  have h4 := h (s.ci.levels.driveReady == some true) 4
  have h5 := h (s.ci.levels.driveFault == some true) 5
  have h6 := h (s.ci.levels.up == some true) 6
  have h7 := h (s.ci.levels.down == some true) 7
  unfold levelsLow
  omega

theorem levelsWord_eq (s : State) : levelsWord s = BitVec.ofNat 16 (levelsLow s + 256 * levelsHigh s) := by
  have hshift (b : Bool) (i : Nat) : bitAt b (i + 8) = 256 * bitAt b i := by
    cases b <;> simp [bitAt, Nat.pow_add, Nat.mul_comm]
  have h8 (b : Bool) := hshift b 0
  have h9 (b : Bool) := hshift b 1
  have h10 (b : Bool) := hshift b 2
  have h11 (b : Bool) := hshift b 3
  have h12 (b : Bool) := hshift b 4
  have h13 (b : Bool) := hshift b 5
  refine congrArg (BitVec.ofNat 16) ?_
  simp only [Nat.zero_add, Nat.reduceAdd] at h8 h9 h10 h11 h12 h13
  simp only [h8, h9, h10, h11, h12, h13, levelsLow, levelsHigh]
  cases s.ps.storeStatus with
  | none => simp only [storeCode]; omega
  | some st => simp only [storeCode]; omega

/-- The lower half of the levels: the safety lines, the drive status and the pendant's directions. -/
theorem levelsLow_shows (s : State) : let b := loByte (levelsWord s)
    b.getLsbD 0 = (s.ci.levels.estop == some true) ∧ b.getLsbD 1 = (s.ci.levels.limitUp == some true)
      ∧ b.getLsbD 2 = (s.ci.levels.limitDown == some true) ∧ b.getLsbD 3 = (s.ci.levels.nut == some true)
      ∧ b.getLsbD 4 = (s.ci.levels.driveReady == some true) ∧ b.getLsbD 5 = (s.ci.levels.driveFault == some true)
      ∧ b.getLsbD 6 = (s.ci.levels.up == some true) ∧ b.getLsbD 7 = (s.ci.levels.down == some true) := by
  have hbyte : loByte (levelsWord s) = byteOf (levelsLow s) := by
    rw [levelsWord_eq, loByte_ofNat]
    apply BitVec.eq_of_toNat_eq
    simp [byteOf]
  rw [hbyte]
  exact byteOf_flags _ _ _ _ _ _ _ _ rfl

/-- The upper half of the levels: the pendant's other lines, STORE in flight and the last store status. -/
theorem levelsHigh_shows (s : State) : let b := hiByte (levelsWord s)
    b.getLsbD 0 = (s.ci.levels.stop == some true) ∧ b.getLsbD 1 = (s.ci.levels.resetReq == some true)
      ∧ b.getLsbD 2 = (s.ci.levels.preset0 == some true) ∧ b.getLsbD 3 = (s.ci.levels.preset1 == some true)
      ∧ b.getLsbD 4 = (s.ci.levels.preset2 == some true) ∧ b.getLsbD 5 = (s.ps.op == .store)
      ∧ b.toNat / 64 = storeCode s.ps.storeStatus := by
  obtain ⟨e0, l0⟩ := bitAt_eq (s.ci.levels.stop == some true) 0
  obtain ⟨e1, l1⟩ := bitAt_eq (s.ci.levels.resetReq == some true) 1
  obtain ⟨e2, l2⟩ := bitAt_eq (s.ci.levels.preset0 == some true) 2
  obtain ⟨e3, l3⟩ := bitAt_eq (s.ci.levels.preset1 == some true) 3
  obtain ⟨e4, l4⟩ := bitAt_eq (s.ci.levels.preset2 == some true) 4
  obtain ⟨e5, l5⟩ := bitAt_eq (s.ps.op == .store) 5
  have hstatus : storeCode s.ps.storeStatus < 4 := by
    cases h : s.ps.storeStatus with
    | none => decide
    | some st => have := st.isLt; simp only [storeCode]; omega
  have hlow := levelsLow_lt s
  have hbyte : hiByte (levelsWord s) = byteOf (levelsHigh s) := by
    rw [levelsWord_eq, hiByte_ofNat]
    exact congrArg byteOf (by omega)
  rw [hbyte, levelsHigh, e0, e1, e2, e3, e4, e5]
  dsimp only
  rw [byteOf_toNat (by omega)]
  exact ⟨byteOf_bit (by omega) (by omega), byteOf_bit (by omega) (by omega), byteOf_bit (by omega) (by omega),
    byteOf_bit (by omega) (by omega), byteOf_bit (by omega) (by omega), byteOf_bit (by omega) (by omega), by omega⟩

end Sys2Proof.Machine
end

section
/-! PROOFS. What the service line shows and answers: the status block, PEEK and SUMMARY, and the lamps (R175 to
R187). -/

namespace Sys2Proof.Machine

open Sys2Proof Sys2Proof.Safety

variable {s : State}

/-- The first eight bytes of the status block show phase, session, start-up, column and lines (R187). -/
theorem showsPhase_of_bytes (s : State) {b : Nat → Byte} (hb : ∀ i, i < 32 → b i = (statusBytes s).getD i 0) :
    ShowsPhase s b := by
  have h0 : b 0 = phaseByte s := hb 0 (by omega)
  have h1 : b 1 = sessionByte s := hb 1 (by omega)
  have h2 : b 2 = keepByte s := hb 2 (by omega)
  have h3 : b 3 = columnByte s := hb 3 (by omega)
  have h4 : b 4 = conditionByte s := hb 4 (by omega)
  have h5 : b 5 = runsByte s := hb 5 (by omega)
  have h6 : b 6 = hiByte (levelsWord s) := hb 6 (by omega)
  have h7 : b 7 = loByte (levelsWord s) := hb 7 (by omega)
  obtain ⟨hphase, hstop, hadopted⟩ := phaseByte_shows s
  obtain ⟨hpress, hnone, hsome⟩ := sessionByte_shows s
  obtain ⟨hkeepNone, hkeepSome, hread, hverdict, hloaded, hupper⟩ := keepByte_shows s
  obtain ⟨c0, c1, c2, c3, c4, c5, c6, c7⟩ := byteOf_flags s.ci.height.isSome s.ci.load.isSome
    s.ci.contactHeight.isSome (s.ci.read != .idle) s.ci.driveEnable s.ci.driveNotReady s.pu.clamped
    s.ci.loadTimer.isSome rfl
  obtain ⟨k0, k1, k2, k3, hheld, hsamples⟩ := conditionByte_shows s
  obtain ⟨hcontact, hunload, hloss, hover⟩ := runsByte_shows s
  obtain ⟨l0, l1, l2, l3, l4, l5, l6, l7⟩ := levelsLow_shows s
  obtain ⟨u0, u1, u2, u3, u4, u5, hstatus⟩ := levelsHigh_shows s
  unfold ShowsPhase
  rw [h0, h1, h2, h3, h4, h5, h6, h7]
  exact ⟨hphase, hstop, hadopted, fun h => ⟨(hnone h).1, (hnone h).2, hkeepNone h⟩,
    fun ss h => ⟨(hsome ss h).1, (hsome ss h).2.1, (hsome ss h).2.2, hkeepSome ss h⟩, hpress, hread, hverdict, hloaded,
    hupper, c0, c1, c2, c3, c4, c5, c6, c7, k0, k1, k2, k3, hheld, hsamples, hcontact, hunload, hloss, hover,
    l0, l1, l2, l3, l4, l5, l6, l7, u0, u1, u2, u3, u4, u5, hstatus⟩

/-! ### The second part of the status block -/

theorem word_saturated (n : Nat) :
    (hiByte (BitVec.ofNat 16 (min 65535 n)) ++ loByte (BitVec.ofNat 16 (min 65535 n))).toNat = min 65535 n := by
  rw [hiByte_append_loByte, BitVec.toNat_ofNat]
  omega

theorem stallByte_shows (s : State) : (stallByte s).toNat % 128 = min 127 s.tm.stall
    ∧ (stallByte s).getLsbD 7 = (s.tm.travelSide == some .lower) := by
  obtain ⟨e7, l7⟩ := bitAt_eq (s.tm.travelSide == some .lower) 7
  rw [stallByte, e7, byteOf_toNat (by omega)]
  exact ⟨by omega, byteOf_bit (by omega) (by omega)⟩

theorem outcomeCode_lt (o : WindowOutcome) : outcomeCode o < 8 := by cases o <;> decide

theorem lockByte_shows (s : State) : (lockByte s).toNat % 32 = min 31 s.pu.lockRun
    ∧ (lockByte s).toNat / 32 = s.pu.lastWindow.elim 0 (fun w => outcomeCode w.outcome) := by
  have hbyte : lockByte s =
      byteOf (min 31 s.pu.lockRun + 32 * s.pu.lastWindow.elim 0 (fun w => outcomeCode w.outcome)) := by
    unfold lockByte
    cases s.pu.lastWindow <;> rfl
  have hlt : s.pu.lastWindow.elim 0 (fun w => outcomeCode w.outcome) < 8 := by
    cases s.pu.lastWindow with
    | none => decide
    | some w => exact outcomeCode_lt w.outcome
  rw [hbyte, byteOf_toNat (by omega)]
  omega

theorem windowByte_shows (s : State) : (windowByte s).toNat % 32 = min 31 s.pu.windowCount
    ∧ (windowByte s).toNat / 32 % 4 = s.pu.lastWindow.elim 0 (fun w => min 3 w.deduction)
    ∧ (windowByte s).getLsbD 7 = (s.ps.op == .load) := by
  obtain ⟨e7, l7⟩ := bitAt_eq (s.ps.op == .load) 7
  have hbyte : windowByte s = byteOf (min 31 s.pu.windowCount
      + 32 * s.pu.lastWindow.elim 0 (fun w => min 3 w.deduction) + 2 ^ 7 * (s.ps.op == .load).toNat) := by
    rw [← e7]
    unfold windowByte
    cases s.pu.lastWindow <;> rfl
  have hlt : s.pu.lastWindow.elim 0 (fun w => min 3 w.deduction) < 4 := by
    cases s.pu.lastWindow with
    | none => decide
    | some w => simp only [Option.elim_some]; omega
  rw [hbyte, byteOf_toNat (by omega)]
  exact ⟨by omega, by omega, byteOf_bit (by omega) (by omega)⟩

theorem proposalByte_shows (s : State) : (s.pu.lastWindow = none → proposalByte s = 0)
    ∧ ∀ w, s.pu.lastWindow = some w → (proposalByte s).toNat = w.final.val + 1 + 16 * (w.ceiled.val + 1) := by
  refine ⟨fun h => by simp [proposalByte, h], fun w h => ?_⟩
  have hfinal := w.final.isLt
  have hceiled := w.ceiled.isLt
  have hbyte : proposalByte s = byteOf (w.final.val + 1 + 16 * (w.ceiled.val + 1)) := by simp [proposalByte, h]
  rw [hbyte, byteOf_toNat (by omega)]

/-- The number of the adoption outcome. -/
def outcomeNumber : AdoptionOutcome → Nat
  | .none => 0
  | .adopted => 1
  | .noMemory => 2
  | .badPlan sec check => 3 + 4 * sectionCode sec + 32 * checkCode check

theorem adoptionByte_toNat (s : State) : (adoptionByte s).toNat = outcomeNumber s.ps.outcome := by
  unfold adoptionByte
  cases s.ps.outcome with
  | none => rfl
  | adopted => rfl
  | noMemory => rfl
  | badPlan sec check =>
    have hsection : sectionCode sec < 8 := by cases sec <;> decide
    have hcheck : checkCode check < 5 := by cases check <;> decide
    exact byteOf_toNat (by omega)

theorem haltCauseByte_shows (s : State) : (haltCauseByte s).toNat / 64 = min 3 s.ci.invalidRun
    ∧ (s.tm.record = none → (haltCauseByte s).toNat % 64 = 0)
    ∧ ∀ r, s.tm.record = some r →
      (haltCauseByte s).toNat % 32 = causeCode r.cause ∧ (haltCauseByte s).getLsbD 5 = r.remote := by
  cases hr : s.tm.record with
  | none =>
    have hbyte : haltCauseByte s = byteOf (64 * min 3 s.ci.invalidRun) := by simp [haltCauseByte, hr]
    rw [hbyte, byteOf_toNat (by omega)]
    exact ⟨by omega, fun _ => by omega, fun r h => by cases h⟩
  | some r =>
    obtain ⟨e5, l5⟩ := bitAt_eq r.remote 5
    have hcause := causeCode_lt r.cause
    have hbyte : haltCauseByte s =
        byteOf (causeCode r.cause + 2 ^ 5 * r.remote.toNat + 64 * min 3 s.ci.invalidRun) := by
      simp only [haltCauseByte, hr, e5]
    rw [hbyte, byteOf_toNat (by omega)]
    refine ⟨by omega, fun h => (by cases h), fun r' h => ?_⟩
    obtain rfl := Option.some.inj h
    exact ⟨by omega, byteOf_bit (by omega) (by omega)⟩

theorem peerByte_toNat (q : Option NodeNum) : (peerByte q).toNat = q.elim 255 (·.val) := by
  cases q with
  | none => rfl
  | some n =>
    have hn := n.isLt
    exact byteOf_toNat (by omega)

/-- The last eight bytes of the status block show the rest of the halt record (R187). -/
theorem recordBytes_shows (s : State) {b : Nat → Byte} (hb : ∀ i, i < 8 → b (24 + i) = (recordBytes s).getD i 0) :
    (s.tm.record = none → ∀ i, 24 ≤ i → i ≤ 31 → b i = 0)
    ∧ ∀ r, s.tm.record = some r → (b 24).toNat = r.originator.val ∧ b 25 ++ b 26 = r.originatorLift
      ∧ b 27 ++ b 28 = r.ownLift ∧ (b 29).toNat = r.peer.elim 255 (·.val)
      ∧ (∀ k, r.token = some k → (b 30).toNat = k.originator.val ∧ b 31 = k.sequence)
      ∧ (r.token = none → b 30 = 0xFF ∧ b 31 = 0xFF) := by
  refine ⟨fun hnone i h1 h2 => ?_, fun r hr => ?_⟩
  · have hbytes : recordBytes s = List.replicate 8 0x00 := by simp [recordBytes, hnone]
    obtain ⟨k, rfl⟩ : ∃ k, i = 24 + k := ⟨i - 24, by omega⟩
    have hk : k < 8 := by omega
    rw [hb k hk, hbytes]
    interval_cases k <;> rfl
  · obtain ⟨x, y, hxy⟩ : ∃ x y, tokenBytes r.token = [x, y] := by
      cases r.token with
      | none => exact ⟨_, _, rfl⟩
      | some k => exact ⟨_, _, rfl⟩
    have hbytes : recordBytes s = byteOf r.originator.val :: wordBytes r.originatorLift ++ wordBytes r.ownLift
        ++ [peerByte r.peer] ++ [x, y] := by simp [recordBytes, hr, hxy]
    rw [hbytes] at hb
    have horiginator := r.originator.isLt
    have hword (i : Nat) (w : Word) (h1 : b i = hiByte w) (h2 : b (i + 1) = loByte w) : b i ++ b (i + 1) = w := by
      rw [h1, h2, hiByte_append_loByte]
    have h30 : b 30 = x := hb 6 (by omega)
    have h31 : b 31 = y := hb 7 (by omega)
    rw [h30, h31, show b 24 = byteOf r.originator.val from hb 0 (by omega),
      show b 29 = peerByte r.peer from hb 5 (by omega), byteOf_toNat (by omega), peerByte_toNat]
    exact ⟨rfl, hword 25 r.originatorLift (hb 1 (by omega)) (hb 2 (by omega)),
      hword 27 r.ownLift (hb 3 (by omega)) (hb 4 (by omega)), rfl, tokenBytes_shows r.token hxy.symm⟩

theorem statusBytes_record (s : State) (i : Nat) : (statusBytes s).getD (24 + i) 0 = (recordBytes s).getD i 0 := by
  have hlength : ∀ l : List Byte, l.length = 24 → (l ++ recordBytes s).getD (24 + i) 0 = (recordBytes s).getD i 0 := by
    intro l hl
    rw [List.getD_append_right _ _ _ _ (by omega), hl, Nat.add_sub_cancel_left]
  exact hlength _ rfl

/-- The rest of the status block shows pace, conditions, adoption outcome and halt record (R187). -/
theorem showsPace_of_bytes (s : State) {b : Nat → Byte} (hb : ∀ i, i < 32 → b i = (statusBytes s).getD i 0) :
    ShowsPace s b := by
  have h8 : b 8 = hiByte (BitVec.ofNat 16 (min 65535 s.pu.windowSum)) := hb 8 (by omega)
  have h9 : b 9 = loByte (BitVec.ofNat 16 (min 65535 s.pu.windowSum)) := hb 9 (by omega)
  have h10 : b 10 = hiByte (BitVec.ofNat 16 (min 65535 (sampleLead s))) := hb 10 (by omega)
  have h11 : b 11 = loByte (BitVec.ofNat 16 (min 65535 (sampleLead s))) := hb 11 (by omega)
  have h12 : b 12 = hiByte (BitVec.ofNat 16 (min 65535 (sampleSpread s))) := hb 12 (by omega)
  have h13 : b 13 = loByte (BitVec.ofNat 16 (min 65535 (sampleSpread s))) := hb 13 (by omega)
  have h14 : b 14 = hiByte s.ci.lastWord := hb 14 (by omega)
  have h15 : b 15 = loByte s.ci.lastWord := hb 15 (by omega)
  have h16 : b 16 = stallByte s := hb 16 (by omega)
  have h17 : b 17 = lockByte s := hb 17 (by omega)
  have h18 : b 18 = windowByte s := hb 18 (by omega)
  have h19 : b 19 = proposalByte s := hb 19 (by omega)
  have h20 : b 20 = hiByte s.tm.flags := hb 20 (by omega)
  have h21 : b 21 = loByte s.tm.flags := hb 21 (by omega)
  have h22 : b 22 = adoptionByte s := hb 22 (by omega)
  have h23 : b 23 = haltCauseByte s := hb 23 (by omega)
  obtain ⟨hstall, hlower⟩ := stallByte_shows s
  obtain ⟨hlockRun, houtcome⟩ := lockByte_shows s
  obtain ⟨hcount, hdeduction, hload⟩ := windowByte_shows s
  obtain ⟨hunproposed, hproposed⟩ := proposalByte_shows s
  obtain ⟨hinvalid, hempty, hcause⟩ := haltCauseByte_shows s
  obtain ⟨hnone, hsome⟩ := recordBytes_shows s (b := b) fun i hi => (hb (24 + i) (by omega)).trans
    (statusBytes_record s i)
  unfold ShowsPace
  rw [h8, h9, h10, h11, h12, h13, h14, h15, h16, h17, h18, h19, h20, h21, h22, h23]
  refine ⟨word_saturated _, fun c hc => ?_, fun h => ?_, hiByte_append_loByte _, hstall, hlower, hlockRun, hcount,
    hload,
    fun h => ?_, fun w h => ?_, hiByte_append_loByte _, adoptionByte_toNat s, hinvalid,
    fun h => ⟨hempty h, hnone h⟩, fun r h => ⟨(hcause r h).1, (hcause r h).2, hsome r h⟩⟩
  · rw [show sampleLead s = c.lead by simp [sampleLead, hc], show sampleSpread s = c.spread by simp [sampleSpread, hc]]
    exact ⟨word_saturated _, word_saturated _⟩
  · rw [show sampleLead s = 0 by simp [sampleLead, h], show sampleSpread s = 0 by simp [sampleSpread, h]]
    decide
  · rw [h] at houtcome hdeduction
    exact ⟨houtcome, hdeduction, hunproposed h⟩
  · rw [h] at houtcome hdeduction
    exact ⟨houtcome, hdeduction, hproposed w h⟩

/-! ### Latch, mask and lamps (R176, R181, R182) -/

theorem readAddress_unassigned (s : State) {a : Nat} (ha : 0x524 ≤ a) : readAddress s a = 0 := by
  rw [readAddress, if_neg (by omega), if_neg (by omega), if_neg (by omega), if_neg (by omega), if_neg (by omega),
    if_neg (by omega), if_neg (by omega)]

theorem byteOf_flag (b : Bool) : byteOf (bitAt b 0) = if b = true then 1 else 0 := by cases b <;> rfl

theorem setComplete_iff {p : Plan} {t : PeerTable} : setComplete p t = true ↔
    ∀ j, (t.entry j).state ≠ .stranger ∧ (isMember p j = true → j ≠ p.node → (t.entry j).state = .live) := by
  simp only [setComplete, noStranger, Bool.and_eq_true, List.all_eq_true, mem_allNodes, forall_true_left, bne_iff_ne,
    Bool.or_eq_true, Bool.not_eq_true', beq_iff_eq, forall_and]
  refine and_congr_right fun _ => forall_congr' fun j => ?_
  cases isMember p j <;> simp [or_iff_not_imp_left]

theorem isHalted_iff (s : State) : isHalted s = true ↔ ∃ r, s.tm.record = some r := Option.isSome_iff_exists

theorem lampReady_iff (s : State) : lampReady s = true ↔ s.tm.record = none ∧ s.tm.epoch.isSome = true
    ∧ ∃ p, s.ps.plan = some p ∧ ∀ j, (s.pt.entry j).state ≠ .stranger
      ∧ (isMember p j = true → j ≠ p.node → (s.pt.entry j).state = .live) := by
  have hrunning : isHalted s = false ↔ s.tm.record = none := by simp [isHalted]
  unfold lampReady nodeSetComplete
  cases hp : s.ps.plan with
  | none => simp
  | some p =>
    simp only [Bool.and_eq_true, Bool.not_eq_true', hrunning, setComplete_iff, Option.some.injEq, exists_eq_left']
    exact ⟨fun ⟨⟨h1, h2⟩, h3⟩ => ⟨h2, h3, h1⟩, fun ⟨h2, h3, h1⟩ => ⟨⟨h1, h2⟩, h3⟩⟩

theorem lampMoving_iff (s : State) : lampMoving s = true ↔ s.phc.phase = .approach ∨ s.phc.phase = .lift
    ∨ s.phc.phase = .lower ∨ s.phc.phase = .retract := by
  unfold lampMoving
  cases s.phc.phase <;> simp [isMoving]

theorem lampHere_iff (s : State) : lampHere s = true ↔ ∃ r, s.tm.record = some r ∧ r.remote = false := by
  unfold lampHere
  cases s.tm.record <;> simp

/-! ### Reads and SUMMARY (R175, R179) -/

/-- What an address shows is not the line's. -/
theorem readAddress_echoByte (b : Byte) (s : State) (a : Nat) : readAddress (echoByte b [] s) a = readAddress s a := rfl

theorem actCommand_peek {t : State} (h : t.ps.op = .none) (a : Word) : actCommand (.peek a) t = doPeek a t := by
  simp [actCommand, planBusy, h]

theorem actCommand_peekOn {t : State} (h : t.ps.op = .none) : actCommand .peekOn t = doPeekOn t := by
  simp [actCommand, planBusy, h]

/-- SUMMARY acts with an operation of the Plan Store in flight too (R177). -/
theorem actCommand_summary (t : State) : actCommand .summary t = doSummary t := by
  simp [actCommand]

theorem exec_peek (hop : s.ps.op = .none) (hp : s.sp.parser = []) (hb : s.sp.breakHeld = false) (a : Word) :
    exec (.peek a) s = .next { s with sp := { s.sp with
      pointer := a, echo := some (loByte a), reply := [readAddress s a.toNat], secondRead := false } } := by
  have h := exec_service (k := .peek a) hp hb
  rw [actCommand_peek (t := echoByte _ [] s) hop, doPeek, readAddress_echoByte, withPointer_echoByte hp] at h
  exact h

theorem exec_peekOn (hop : s.ps.op = .none) (hp : s.sp.parser = []) (hb : s.sp.breakHeld = false) :
    exec .peekOn s = .next { s with sp := { s.sp with
      pointer := s.sp.pointer + 2, echo := some 0x13,
      reply := [readAddress s (s.sp.pointer + 1).toNat, readAddress s (s.sp.pointer + 2).toNat]
      secondRead := true } } := by
  have h := exec_service (k := .peekOn) hp hb
  rw [actCommand_peekOn (t := echoByte _ [] s) hop, doPeekOn, readAddress_echoByte, readAddress_echoByte,
    withPointer_echoByte hp] at h
  exact h

/-- The flags byte of SUMMARY (R179). -/
theorem summaryFlags_eq (a b : Bool) :
    byteOf (bitAt a 0 + bitAt b 1) = (if a then 1 else 0) ||| (if b then 2 else 0) := by
  cases a <;> cases b <;> rfl

theorem exec_summary (hp : s.sp.parser = []) (hb : s.sp.breakHeld = false) : exec .summary s =
    .next { s with sp := { s.sp with echo := some 0x20, secondRead := false, reply := summaryBytes s } } := by
  have h := exec_service (k := .summary) hp hb
  rw [actCommand_summary, doSummary, withReply_echoByte hp] at h
  exact h

end Sys2Proof.Machine

open Sys2Proof Sys2Proof.Machine Sys2Proof.Safety

/-- Settles O51: the reads, the bytes at every address, SUMMARY and the lamps. -/
theorem serviceReads : Obligations.ServiceReads := by
  refine ⟨fun s a hop hp hb => ⟨exec_peek hop hp hb a, exec_peekOn hop hp hb⟩, fun s hpending hsecond => ?_,
    fun s hp hb => ?_, fun s => ⟨fun a ha => if_pos ha, fun j => ?_, ?_, ?_, fun i hi => ⟨?_, ?_⟩, byteOf_flag _,
      byteOf_flag _, fun a ha => readAddress_unassigned s ha⟩,
    fun s => ⟨lampReady_iff s, lampMoving_iff s, isHalted_iff s, fun h => ?_, lampHere_iff s⟩⟩
  · refine ⟨idleSlot s, by simp [step, hpending], ?_⟩
    rcases takeSecondRead_cases s with ⟨h, -⟩ | ⟨-, e⟩
    · rw [hsecond] at h; cases h
    · exact e
  · have hsession : byteOf (sessionCode s.su.session) =
        s.su.session.elim 0 (fun ss => if ss.state = .pending then 1 else 2) := by
      cases s.su.session with
      | none => rfl
      | some ss => rw [sessionCode_some, Option.elim_some]; split <;> rfl
    rw [exec_summary hp hb, summaryBytes, summaryFlags_eq, hsession]
    cases s.su.session <;> cases s.tm.record <;> rfl
  · exact showsEntry_of_bytes _ fun i hi => readAddress_entry s j hi
  · exact showsPhase_of_bytes s fun i hi => readAddress_status s hi
  · exact showsPace_of_bytes s fun i hi => readAddress_status s hi
  · show (s.sp.latch.setWidth 8).getLsbD i = _
    simp [hi]
  · show (s.sp.mask.setWidth 8).getLsbD i = _
    simp [hi]
  · exact h.symm

end
